-- ==== Sys2Proof/Word.lean ====
section
/-! DEFINITION. The words of the JQ-2604: bytes of frames, buses and memories, 16-bit CRCs and 32-bit notice counters. -/

namespace Sys2Proof

/-- A byte of a frame (R158), of a bus (R76) or of staging memory (R45). -/
abbrev Byte := BitVec 8

/-- A CRC-16 (R159). -/
abbrev Crc := BitVec 16

/-- A notice counter: 0 to 4294967295, wrapping (R155). -/
abbrev WrapCount := BitVec 32

end Sys2Proof
end

