-- ==== Sys2Proof/Machine/Crc.lean ====
section
/-! DEFINITION. The CRC-16 of frames and of the script body (R159, R183). -/

namespace Sys2Proof.Machine

/-- R159: one bit, most significant first: shift left, and if the bit shifted out differs from the data bit, exclusive-or
with 0x1021. -/
def crcBit (crc : Crc) (bit : Bool) : Crc :=
  if crc.getMsbD 0 != bit then (crc <<< 1) ^^^ 0x1021 else crc <<< 1

/-- R159: one byte, its bits from the most significant. -/
def crcByte (crc : Crc) (b : Byte) : Crc :=
  (List.range 8).foldl (fun acc i => crcBit acc (b.getMsbD i)) crc

/-- R159: the CRC of a run of bytes, from the start value 0xFFFF. -/
def crc16 (bytes : List Byte) : Crc := bytes.foldl crcByte 0xFFFF

end Sys2Proof.Machine
end

