-- ==== Sys2Proof/Config.lean ====
section
/-! DEFINITION. What the part fixes: its capacities (section 1.2 of 00_scope.md), intervals and identity. No value of the
spec is left open, so there is no free value here. -/

namespace Sys2Proof.Config

/-- R4: entries of the descriptor pool. -/
abbrev poolEntries : Nat := 128
/-- R1: most descriptors of one ring. -/
abbrev ringMax : Nat := 32
/-- R8: most descriptors of one CH_LOAD. -/
abbrev loadMax : Nat := 8
/-- R45: bytes of staging memory. -/
abbrev stagingBytes : Nat := 8192
/-- R53, R54: most bytes of one host access. -/
abbrev hostAccessMax : Nat := 240
/-- R63: places of the Direct Queue. -/
abbrev ticketMax : Nat := 4
/-- R136: places of the Notice Queue. -/
abbrev noticeMax : Nat := 24
/-- R136: places of the window. -/
abbrev windowMax : Nat := 4
/-- R147: most transmissions before MUTE. -/
abbrev transmissionMax : Nat := 4
/-- R146: retransmit interval in ms. -/
abbrev retransmitMs : Nat := 250
/-- R164: places of the inbox. -/
abbrev inboxMax : Nat := 4
/-- R161: gap interval in ms. -/
abbrev gapMs : Nat := 5
/-- R78, R102: clock wait in ms. -/
abbrev clockWaitMs : Nat := 1
/-- R89: retry gap in ms. -/
abbrev retryGapMs : Nat := 1
/-- R103: recovery gap in ms. -/
abbrev recoveryGapMs : Nat := 10
/-- R103: attempts of one recovery. -/
abbrev recoveryAttempts : Nat := 3
/-- R102: clock pulses of one recovery attempt. -/
abbrev recoveryPulses : Nat := 9
/-- R178: bytes of the script buffer. -/
abbrev scriptBufferBytes : Nat := 4096
/-- R181: longest script body. -/
abbrev scriptMax : Nat := 4088
/-- R182: bytes of one body piece. -/
abbrev pieceBytes : Nat := 256
/-- Largest value of a saturating 16-bit counter (R1, R73, R126, R165). -/
abbrev saturation : Nat := 65535
/-- R126: period of a pacer after reset. -/
abbrev pacerResetPeriod : Nat := 1000
/-- R177: shortest low on RESET_N that resets, in microseconds. -/
abbrev resetLowMicros : Nat := 10
/-- R190: the start byte of a frame. -/
abbrev startByte : Byte := 0xC5
/-- R158: shortest and longest body of a frame. -/
abbrev bodyMin : Nat := 3
/-- R158. -/
abbrev bodyMax : Nat := 250
/-- R196. -/
abbrev vendorCode : Nat := 0x4A17
/-- R196. -/
abbrev partCode : Nat := 0x2604
/-- R196. -/
abbrev revision : Nat := 1

end Sys2Proof.Config
end

