-- ==== Sys2Proof/Syntax.lean ====
section
/-! DEFINITION. The commands of the block: the 74 steps of spec/opcode_table.json, one constructor each, with what each
takes from outside as operands. A host command's operands are the payload of its frame in the inbox (R168). -/

namespace Sys2Proof

/-- The four downstream ports. -/
inductive Port where
  | a | b | c | d
deriving DecidableEq, Repr

abbrev ChannelIx := Fin 8
abbrev SlotIx := Fin 32
abbrev PacerIx := Fin 4

/-- Levels of the strap pins as they stand when they are sampled (R157, R177); true is high. -/
structure Straps where
  bootEn : Bool
  baud1 : Bool
  baud0 : Bool
deriving DecidableEq, Repr

/-- Levels of a port's clock and data line as the engine reads them back; true is high (section 5.2). -/
structure Lines where
  clock : Bool
  data : Bool
deriving DecidableEq, Repr

/-- Both lines read high (R81, R102). -/
def Lines.bothHigh (l : Lines) : Bool := l.clock && l.data

/-- A party that an announcement re-evaluates (R39, R107): a channel's head or a ticket, by its number. -/
inductive Party where
  | channel (c : ChannelIx)
  | ticket (number : Nat)
deriving DecidableEq, Repr

/-- The steps of the part, in the table's order. -/
inductive Instr where
  /-- POWER_ON_RESET (R177). -/
  | powerOnReset
  /-- RESET_N_LOW (R177), with the length of the low in microseconds. -/
  | resetNLow (micros : Nat)
  /-- RESET_N_RELEASE (R177), with the straps sampled and port A's lines at the header read's line check. -/
  | resetNRelease (straps : Straps) (lines : Lines)
  /-- RESTART (R176). -/
  | restart
  /-- RESTART_EFFECT (R176), operands as RESET_N_RELEASE. -/
  | restartEffect (straps : Straps) (lines : Lines)
  /-- RECEIVE_CHARACTER (R157, R160). bits: the eight data bits between start bit and stop bit, the first one received first;
  stopHigh: the stop bit read high. -/
  | receiveCharacter (bits : List Bool) (stopHigh : Bool)
  /-- GAP_EXPIRY (R161). -/
  | gapExpiry
  /-- COMMAND_FRAME (R164). -/
  | commandFrame
  /-- CRC_ERROR (R163). -/
  | crcError
  /-- BAD_FRAME (R163). -/
  | badFrame
  /-- NOTICE_ACK (R149). -/
  | noticeAck
  /-- DUPLICATE_COMMAND (R168). -/
  | duplicateCommand
  /-- UNKNOWN_KIND (R169). -/
  | unknownKind
  /-- PING (R172). -/
  | ping
  /-- IDENTIFY (R173). -/
  | identify
  /-- STATUS (R174). -/
  | status
  /-- STATS (R175). -/
  | stats
  /-- ABORT_START (R187). -/
  | abortStart
  /-- TGT_SET (R34). -/
  | tgtSet
  /-- TGT_GET (R43). -/
  | tgtGet
  /-- TGT_REMOVE (R40). -/
  | tgtRemove
  /-- TGT_FENCE (R41). -/
  | tgtFence
  /-- TGT_UNFENCE (R42). -/
  | tgtUnfence
  /-- MEM_WRITE (R53). -/
  | memWrite
  /-- MEM_READ (R54). -/
  | memRead
  /-- CH_CONFIG (R7). -/
  | chConfig
  /-- CH_LOAD (R8). -/
  | chLoad
  /-- CH_CLEAR (R9). -/
  | chClear
  /-- CH_START (R11). -/
  | chStart
  /-- CH_STOP (R27). -/
  | chStop
  /-- CH_ABORT (R28). -/
  | chAbort
  /-- CH_RESUME (R24). -/
  | chResume
  /-- CH_GET (R10). -/
  | chGet
  /-- PC_SET (R128). -/
  | pcSet
  /-- PC_START (R129). -/
  | pcStart
  /-- PC_STOP (R130). -/
  | pcStop
  /-- PC_GET (R131). -/
  | pcGet
  /-- PT_ENABLE (R109). -/
  | ptEnable
  /-- PT_DISABLE (R110). -/
  | ptDisable
  /-- PT_RESET (R111). -/
  | ptReset
  /-- PT_GET (R112). -/
  | ptGet
  /-- XFER (R65). -/
  | xfer
  /-- XFER_CANCEL (R70). -/
  | xferCancel
  /-- HEADER_READ_DONE (R181), with port A's lines at the line check of the first body read. -/
  | headerReadDone (lines : Lines)
  /-- BODY_PIECE_DONE (R182), with port A's lines at the line check of the next body read. -/
  | bodyPieceDone (lines : Lines)
  /-- SCRIPT_RECORD (R184). -/
  | scriptRecord
  /-- FRAME_END (R144). takingFirst: at the end of a reply frame the interpreter's taking of a waiting inbox frame comes
  before the transmitter's choice (R168). -/
  | frameEnd (takingFirst : Bool)
  /-- RETRANSMIT_TIMER_EXPIRY (R147), with the notice's number. -/
  | retransmitTimerExpiry (number : Nat)
  /-- TIMEBASE_TICK (R125, R132), with the ports whose clock line reads low, at the tick, though their engine has released it
  (R78). -/
  | timebaseTick (stretched : List Port := [])
  /-- PACER_EXPIRY (R132, R133). -/
  | pacerExpiry (pacer : PacerIx)
  /-- PAUSE_EXPIRY (R18). -/
  | pauseExpiry (channel : ChannelIx)
  /-- PASS_GAP_END (R21). -/
  | passGapEnd (channel : ChannelIx)
  /-- CHANNEL_COMPLETION (R19, R29). -/
  | channelCompletion (channel : ChannelIx)
  /-- TARGET_ACCOUNTING (R37), of the record that the port's engine has made. -/
  | targetAccounting (port : Port)
  /-- SLOT_ANNOUNCEMENT (R39). order: the parties taken first, in this order; the others follow. -/
  | slotAnnouncement (slot : SlotIx) (order : List Party)
  /-- PORT_ANNOUNCEMENT (R107). -/
  | portAnnouncement (port : Port) (order : List Party)
  /-- TICKET_COMPLETION (R69), of the ticket with this number. -/
  | ticketCompletion (number : Nat)
  /-- GRANT_OCCASION (R58), with the port's lines at the line check (R81). -/
  | grantOccasion (port : Port) (lines : Lines)
  /-- BYTE_COMPLETE (R76). bits: the eight data bits sampled, the first one first, used when the engine receives; ack: the data
  line was low in the acknowledge clock, used when the engine sends. -/
  | byteComplete (port : Port) (bits : List Bool) (ack : Bool)
  /-- BUS_CONDITION_FORMED (R76), with the lines as read after a STOP that follows STRETCH_TIMEOUT (R78). -/
  | busConditionFormed (port : Port) (lines : Lines)
  /-- BUS_CONFLICT (R79). -/
  | busConflict (port : Port)
  /-- STRETCH_END (R78). -/
  | stretchEnd (port : Port)
  /-- STRETCH_TIMEOUT (R78). -/
  | stretchTimeout (port : Port)
  /-- STOP_CLOCK_WAIT_EXPIRY (R78). -/
  | stopClockWaitExpiry (port : Port)
  /-- CYCLE_POLL_ANSWER (R87). -/
  | cyclePollAnswer (port : Port) (ack : Bool)
  /-- CYCLE_LIMIT_EXPIRY (R87). startBegun: the engine has begun to form the START of the next poll. -/
  | cycleLimitExpiry (port : Port) (startBegun : Bool := false)
  /-- RETRY_GAP_END (R89). -/
  | retryGapEnd (port : Port)
  /-- ABORT_REQUEST (R92). startBegun: the engine has begun to form the START of the next segment or poll (R93). -/
  | abortRequest (port : Port) (startBegun : Bool := false)
  /-- RECOVERY_CLOCK_WAIT_EXPIRY (R102). -/
  | recoveryClockWaitExpiry (port : Port)
  /-- RECOVERY_ATTEMPT_END (R102), with the lines as read after the STOP. -/
  | recoveryAttemptEnd (port : Port) (lines : Lines)
  /-- RECOVERY_GAP_END (R103). -/
  | recoveryGapEnd (port : Port)
  /-- SUPPLY_VALID (R177), operands as RESET_N_RELEASE. -/
  | supplyValid (straps : Straps) (lines : Lines)
  /-- RECOVERY_PULSE (R102). -/
  | recoveryPulse (port : Port)
  /-- CLOCK_WAIT_END (R102), with whether the data line reads high. -/
  | clockWaitEnd (port : Port) (dataHigh : Bool)
deriving DecidableEq, Repr

end Sys2Proof
end

