-- ==== Sys2Proof/WellFormed.lean ====
section
/-! DEFINITION. Which commands are well formed: a ticket or notice number is 0 to 255 (R63, R135), and a byte
of a bus (R76) and a character (R157) have eight data bits. Channels, slots, pacers and ports are in range by their types. -/

namespace Sys2Proof

/-- R63: ticket numbers are 0 to 255. -/
def Party.wf : Party → Bool
  | .channel _ => true
  | .ticket n => n ≤ 255

/-- Every number an operand names exists (R63, R135), and a byte and a character have eight data bits (R76, R157). -/
def Instr.wf : Instr → Bool
  | .retransmitTimerExpiry n => n ≤ 255
  | .ticketCompletion n => n ≤ 255
  | .slotAnnouncement _ order => order.all Party.wf
  | .portAnnouncement _ order => order.all Party.wf
  | .byteComplete _ bits _ => bits.length == 8
  | .receiveCharacter bits _ => bits.length == 8
  | .powerOnReset | .resetNLow _ | .resetNRelease _ _ | .restart | .restartEffect _ _
  | .gapExpiry | .commandFrame | .crcError | .badFrame | .noticeAck | .duplicateCommand | .unknownKind | .ping
  | .identify | .status | .stats | .abortStart | .tgtSet | .tgtGet | .tgtRemove | .tgtFence | .tgtUnfence | .memWrite
  | .memRead | .chConfig | .chLoad | .chClear | .chStart | .chStop | .chAbort | .chResume | .chGet | .pcSet | .pcStart
  | .pcStop | .pcGet | .ptEnable | .ptDisable | .ptReset | .ptGet | .xfer | .xferCancel | .headerReadDone _
  | .bodyPieceDone _ | .scriptRecord | .frameEnd _ | .timebaseTick _ | .pacerExpiry _ | .pauseExpiry _ | .passGapEnd _
  | .channelCompletion _ | .targetAccounting _ | .grantOccasion _ _ | .busConditionFormed _ _
  | .busConflict _ | .stretchEnd _ | .stretchTimeout _ | .stopClockWaitExpiry _ | .cyclePollAnswer _ _
  | .cycleLimitExpiry _ _ | .retryGapEnd _ | .abortRequest _ _ | .recoveryClockWaitExpiry _ | .recoveryAttemptEnd _ _
  | .recoveryGapEnd _ | .supplyValid _ _ | .recoveryPulse _ | .clockWaitEnd _ _ => true

end Sys2Proof
end

