-- ==== Sys2Proof/Decode.lean ====
section
/-! DEFINITION. The command that a word spells by the table's bits. No row of spec/opcode_table.json gives bits: the steps
are events of the part, and the bytes of host commands are decoded where R160 to R169 and R195 say (Machine/Receive.lean,
Machine/Interpreter.lean, Machine/Operands.lean). -/

namespace Sys2Proof

/-- No row of the table gives bits, so no word spells a command. -/
def decodeTableWord (_nbits _w : Nat) : Option Instr := none

end Sys2Proof
end

