-- ==== Sys2Proof/Machine/State.lean ====
section
/-! DEFINITION. The state of the part, block by block, as plain data, and its value after reset. -/

namespace Sys2Proof.Machine

/-! ### Small types -/

/-- One value for each port. -/
structure PerPort (α : Type) where
  a : α
  b : α
  c : α
  d : α
deriving DecidableEq, Repr

/-- Memory: (address, byte) cells, addresses strictly rising, no byte 0 listed (an unlisted address reads 0, R45). -/
abbrev Memory := List Host.Cell

/-- Result codes (R96, R192). -/
inductive Result where
  | done | addrNak | offsetNak | dataNak | stretchTimeout | cycleTimeout | busConflict | portFailed
  | targetFenced | targetVacant | range | aborted
deriving DecidableEq, Repr

/-- A completion record (R95): result code, bytes moved, attempts used. -/
structure Record where
  result : Result
  moved : Nat
  attempts : Nat
deriving DecidableEq, Repr

/-- The watch outcome that goes with a record (R117). -/
inductive WatchOutcome where
  | hit | noHit
deriving DecidableEq, Repr

/-- Statuses of replies (R171, R192). -/
inductive Status where
  | ok | unknownKind | badLength | badValue | wrongState | noRoom | busy | busyStarting | busyRange | range
  | duplicate | noTarget
deriving DecidableEq, Repr

/-! ### Channels and descriptors (chapter 1) -/

inductive WatchMode where
  | onChange | onMatch | onDiffer
deriving DecidableEq, Repr

/-- The three operations that run on a bus (R5), with what only a WATCH has. -/
inductive TransferOp where
  | read
  | write
  | watch (mode : WatchMode) (hold : Bool)
deriving DecidableEq, Repr

/-- A READ, WRITE or WATCH descriptor (R5). -/
structure Transfer where
  op : TransferOp
  slot : SlotIx
  offset : Nat
  length : Nat
  position : Nat
deriving DecidableEq, Repr

/-- A descriptor (R5); the fields a PAUSE lacks are absent and are reported as 0. -/
inductive Descriptor where
  | transfer (t : Transfer)
  | pause (ms : Nat)
deriving DecidableEq, Repr

inductive ChannelState where
  | off | paced | running | halted | stopping
deriving DecidableEq, Repr

inductive Priority where
  | low | normal | high | urgent
deriving DecidableEq, Repr

inductive ChannelMode where
  | once | circular
deriving DecidableEq, Repr

inductive FailurePolicy where
  | halt | skip
deriving DecidableEq, Repr

/-- The set of notice wants (R1). -/
structure Wants where
  half : Bool
  pass : Bool
  fail : Bool
  overrun : Bool
deriving DecidableEq, Repr

/-- Head status (R1). A CANDIDATE head is in the candidate set of the port named (R56); an ON_PORT head runs there. -/
inductive HeadStatus where
  | none
  | waiting
  | candidate (at_ : Port)
  | onPort (at_ : Port)
  | pausing
deriving DecidableEq, Repr

inductive HaltReason where
  | failure | watchHold
deriving DecidableEq, Repr

/-- A completion record handed on to a channel and not yet taken (R37, R62). -/
structure Arrival where
  record : Record
  outcome : Option WatchOutcome
deriving DecidableEq, Repr

/-- A channel record (R1), with its pause timer (R18), its pass gap (R21) and a record on its way to it. -/
structure Channel where
  state : ChannelState
  priority : Priority
  mode : ChannelMode
  pacer : Option PacerIx
  policy : FailurePolicy
  wants : Wants
  ring : List Descriptor
  position : Nat
  doneInPass : Nat
  head : HeadStatus
  haltReason : Option HaltReason
  heldPassEnd : Bool
  passCount : Nat
  overrunCount : Nat
  failureCount : Nat
  lastResult : Option Record
  pauseTimer : Option Nat
  passGap : Option Nat
  arriving : Option Arrival
deriving DecidableEq, Repr

/-- R1: the value of every field after reset. -/
def Channel.atReset : Channel where
  state := .off
  priority := .normal
  mode := .once
  pacer := none
  policy := .halt
  wants := { half := false, pass := false, fail := true, overrun := false }
  ring := []
  position := 0
  doneInPass := 0
  head := .none
  haltReason := none
  heldPassEnd := false
  passCount := 0
  overrunCount := 0
  failureCount := 0
  lastResult := none
  pauseTimer := none
  passGap := none
  arriving := none

/-! ### Targets (chapter 2) -/

inductive TargetKind where
  | memory | register | stream
deriving DecidableEq, Repr

inductive Speed where
  | khz100 | khz400
deriving DecidableEq, Repr

/-- A slot's definition (R31). -/
structure Definition where
  port : Port
  address : Nat
  kind : TargetKind
  offsetWidth : Nat
  extent : Nat
  pageSize : Nat
  speed : Speed
  stretchLimit : Nat
  cycleLimit : Nat
  retries : Nat
  fenceThreshold : Nat
deriving DecidableEq, Repr

/-- The states of a slot that is not VACANT (R32). -/
inductive Standing where
  | online | suspect | fenced
deriving DecidableEq, Repr

/-- What a slot that is not VACANT holds (R31). -/
structure Target where
  defn : Definition
  standing : Standing
  count : Nat
deriving DecidableEq, Repr

/-- A target slot (R31); it is VACANT when it holds no target. -/
structure Slot where
  target : Option Target
  inFlight : Bool
deriving DecidableEq, Repr

/-- R31: a slot after reset. -/
def Slot.atReset : Slot := { target := none, inFlight := false }

/-! ### Staging memory, direct queue and arbiters (chapters 3 and 4) -/

/-- Direction of a busy range (R49). -/
inductive Direction where
  | reads | writes
deriving DecidableEq, Repr

/-- An entry of the busy-range list; its port is its place (R49). -/
structure BusyRange where
  first : Nat
  length : Nat
  direction : Direction
deriving DecidableEq, Repr

/-- State and standing of a ticket (R63). -/
inductive TicketState where
  | waiting
  | candidate (at_ : Port)
  | inFlight
deriving DecidableEq, Repr

/-- A ticket (R63), with a record on its way to it (R62). -/
structure Ticket where
  number : Nat
  transfer : Transfer
  state : TicketState
  arrived : Option Record
deriving DecidableEq, Repr

/-- The owner of a transaction (R62, R80, R180). -/
inductive Owner where
  | channel (c : ChannelIx)
  | ticket (number : Nat)
  | replay
deriving DecidableEq, Repr

/-- A Dispatch Arbiter (R56): its current grant, and whether a grant occasion (R58) waits to be taken. Its candidate set
is read from the head statuses and the tickets. -/
structure Arbiter where
  grant : Option Owner
  occasion : Bool
deriving DecidableEq, Repr

/-- R56: an arbiter after reset. -/
def Arbiter.atReset : Arbiter := { grant := none, occasion := false }

/-! ### Port engines (chapters 5 and 6) -/

inductive PortState where
  | disabled | idle | busy | recovering | failed
deriving DecidableEq, Repr

/-- The phases of R75. -/
inductive Phase where
  | none | start | address | offset | dataOut | dataIn | cyclePoll | stop
deriving DecidableEq, Repr

/-- What the STOP being formed closes (R82 to R93). -/
inductive Closing where
  /-- a read or a one-piece write that has run to its end -/
  | final
  /-- the sending of a memory segment (R86, step 5) -/
  | segment
  /-- an attempt that failed with this NAK result (R89) -/
  | nak (r : Result)
  /-- a transfer cut by an abort request (R93) -/
  | aborted
deriving DecidableEq, Repr

/-- What a BUSY engine is doing on its bus (R75 to R93). -/
inductive Activity where
  /-- nothing: the port is not BUSY -/
  | none
  /-- waiting out a retry gap (R89) -/
  | retryGap
  /-- forming the START of an attempt (R82 to R86, step 1) -/
  | formStart
  /-- before the START of a later segment (R93) -/
  | beforeSegment
  /-- forming a repeated START (R82, step 4) -/
  | formRestart
  /-- sending an address byte; read: its direction; again: after a repeated START -/
  | address (read : Bool) (again : Bool)
  /-- sending offset byte k, counted from 0 (R77) -/
  | offset (k : Nat)
  /-- sending data byte k of the attempt (R84) or of the segment (R86) -/
  | dataOut (k : Nat)
  /-- receiving data byte k (R82, R83) -/
  | dataIn (k : Nat)
  /-- receiving the one more byte of an aborted read (R93) -/
  | dataInExtra
  /-- forming a STOP -/
  | formStop (c : Closing)
  /-- between two cycle polls, or before the first (R87, R93) -/
  | betweenPolls
  /-- forming the START of a cycle poll (R87) -/
  | pollStart
  /-- sending the address byte of a cycle poll, or forming its STOP (R87) -/
  | poll
  /-- after STRETCH_TIMEOUT, waiting for the clock line (R78) -/
  | stretchClockWait
  /-- after STRETCH_TIMEOUT, forming the STOP (R78) -/
  | stretchStop
deriving DecidableEq, Repr

/-- The transaction in flight (R73, R80): owner, descriptor, its index (R118) and the definition taken at the grant. For a
boot memory read the position is a script buffer position (R180). -/
structure Transaction where
  owner : Owner
  index : Nat
  transfer : Transfer
  defn : Definition
deriving DecidableEq, Repr

/-- The segment in progress of a memory write (R73, R85): first target offset, length, place in the write from 1. -/
structure Segment where
  first : Nat
  length : Nat
  place : Nat
deriving DecidableEq, Repr

/-- The step of R102 a recovery attempt is in, or the gap of R103. -/
inductive RecoveryStep where
  /-- step 2: waiting for the clock line -/
  | clockWait
  /-- step 4: giving a clock pulse -/
  | pulse
  /-- step 5: forming the STOP -/
  | stop
  /-- the 10 ms gap after a failed attempt -/
  | gap
deriving DecidableEq, Repr

/-- The recovery under way (R100). -/
structure Recovery where
  attempt : Nat
  pulses : Nat
  step : RecoveryStep
deriving DecidableEq, Repr

/-- A completion record made by the engine that the Target Table has not yet taken (R73, R97), with what goes with it. -/
structure MadeRecord where
  record : Record
  owner : Owner
  slot : SlotIx
  outcome : Option WatchOutcome
deriving DecidableEq, Repr

/-- A Port Engine (R73, R100), with its timers in ticks (R78, R87, R89, R102, R103) and the abort requests sent to it. -/
structure Engine where
  portState : PortState
  activity : Activity
  transaction : Option Transaction
  attempts : Nat
  segment : Option Segment
  confirmed : Nat
  moved : Nat
  abortRequested : Bool
  scratch : List Byte
  record : Option MadeRecord
  transactions : Nat
  failures : Nat
  recoveries : Nat
  recovery : Option Recovery
  ptResetRequested : Bool
  waitTimer : Option Nat
  stretchTimer : Option Nat
  cycleTimer : Option Nat
  cycleExpired : Bool
  abortRequests : List Owner
deriving DecidableEq, Repr

/-- R73, R100: an engine after reset. -/
def Engine.atReset : Engine where
  portState := .idle
  activity := .none
  transaction := none
  attempts := 0
  segment := none
  confirmed := 0
  moved := 0
  abortRequested := false
  scratch := List.replicate 16 0
  record := none
  transactions := 0
  failures := 0
  recoveries := 0
  recovery := none
  ptResetRequested := false
  waitTimer := none
  stretchTimer := none
  cycleTimer := none
  cycleExpired := false
  abortRequests := []

/-! ### Pacers (chapter 8) -/

inductive PacerMode where
  | repeat_ | single
deriving DecidableEq, Repr

/-- A pacer (R126). expiring: a tick has brought its time to 0 and its expiry (R132) is still to be taken (log entry 8). -/
structure Pacer where
  running : Bool
  period : Nat
  mode : PacerMode
  remaining : Nat
  expiryCount : Nat
  expiring : Bool
deriving DecidableEq, Repr

/-- R126: a pacer after reset. -/
def Pacer.atReset : Pacer :=
  { running := false, period := Config.pacerResetPeriod, mode := .repeat_, remaining := 0, expiryCount := 0,
    expiring := false }

/-! ### Notices and the sending side (chapters 9 and 10) -/

inductive NoticeClass where
  | alarm | status | info
deriving DecidableEq, Repr

/-- Outcomes of a start-up (R188). -/
inductive StartOutcome where
  | complete | skipped | noScript | badHeader | tooLong | readFault | crcFault | badRecord | commandFailed | aborted
deriving DecidableEq, Repr

/-- The kinds of notice with their kind fields (R138). A WATCH_HIT's source is a channel or a ticket. -/
inductive NoticeKind where
  | channelHalted (channel : ChannelIx) (position : Nat) (result : Result) (slot : SlotIx)
  | targetFenced (slot : SlotIx) (result : Result)
  | portFailed (port : Port)
  | startReport (outcome : StartOutcome) (executed : Nat) (failing : Nat) (status : Status)
  | descFailed (channel : ChannelIx) (position : Nat) (result : Result) (slot : SlotIx) (attempts : Nat)
  | xferDone (ticket : Nat) (result : Result) (moved : Nat)
  | watchHit (fromTicket : Bool) (number : Nat) (index : Nat) (mode : WatchMode) (reading : List Byte)
  | paceOverrun (channel : ChannelIx) (count : Nat)
  | portRecovered (port : Port) (attempts : Nat)
  | halfPass (channel : ChannelIx) (count : Nat)
  | passDone (channel : ChannelIx) (count : Nat)
  | inboxOverflow (count : Nat)
deriving DecidableEq, Repr

/-- Retransmit timer of a notice (R135): none, running with ticks to come, or run out so that the notice is due. -/
inductive NoticeTimer where
  | none
  | running (ticks : Nat)
  | due
deriving DecidableEq, Repr

/-- A held notice (R135). inWindow: WINDOW rather than QUEUED. -/
structure Notice where
  number : Nat
  kind : NoticeKind
  merges : Nat
  transmissions : Nat
  inWindow : Bool
  timer : NoticeTimer
deriving DecidableEq, Repr

/-- The seven notice counters (R155). -/
structure NoticeCounters where
  created : WrapCount
  merged : WrapCount
  discarded : WrapCount
  acknowledged : WrapCount
  retransmissions : WrapCount
  muteEntries : WrapCount
  strayAcks : WrapCount
deriving DecidableEq, Repr

/-- The Notice Queue (R136). attnLow: ATTN_N is driven low (R154). -/
structure NoticeQueue where
  held : List Notice
  nextNumber : Nat
  muted : Bool
  counters : NoticeCounters
  attnLow : Bool
deriving DecidableEq, Repr

/-- R136, R155: the Notice Queue after reset. -/
def NoticeQueue.atReset : NoticeQueue where
  held := []
  nextNumber := 0
  muted := false
  counters := { created := 0, merged := 0, discarded := 0, acknowledged := 0, retransmissions := 0, muteEntries := 0,
                strayAcks := 0 }
  attnLow := false

/-- A reply (R167): tag and kind of the command answered, status, fields after it. -/
structure Reply where
  tag : Byte
  kind : Byte
  status : Status
  fields : List Byte
deriving DecidableEq, Repr

/-- The reply slot (R168). -/
inductive ReplySlot where
  | empty
  | pending (r : Reply)
  | sending (r : Reply)
deriving DecidableEq, Repr

/-- What the frame being sent is (R144): the reply of the slot, or the notice with this number. -/
inductive FrameSource where
  | reply
  | notice (number : Nat)
deriving DecidableEq, Repr

/-- The frame on LTX, with all its bytes (R158, R167). -/
structure Sending where
  source : FrameSource
  bytes : List Byte
deriving DecidableEq, Repr

/-- The stages of RESTART (R176): none; executed; its reply has left LTX and the effect is to be taken. -/
inductive RestartStage where
  | none | executed | replyGone
deriving DecidableEq, Repr

/-- The sending side: Notice Queue, transmitter, reply slot and stage of RESTART (R136, R144, R168, R176). takingNext: a reply
frame has ended, and the interpreter's taking of the next inbox frame comes before the transmitter's choice (R168). -/
structure Outbound where
  notices : NoticeQueue
  sending : Option Sending
  reply : ReplySlot
  restart : RestartStage
  takingNext : Bool
deriving DecidableEq, Repr

/-- R136, R166, R168: the sending side after reset. -/
def Outbound.atReset : Outbound :=
  { notices := NoticeQueue.atReset, sending := none, reply := .empty, restart := .none, takingNext := false }

/-! ### The receiving side and the interpreter (chapter 10) -/

/-- The deframer (R160), with what it has taken of the frame. -/
inductive Deframer where
  | hunt
  | length
  | body (len : Nat) (got : List Byte)
  | crcLow (got : List Byte)
  | crcHigh (got : List Byte) (low : Byte)
deriving DecidableEq, Repr

/-- A complete frame that awaits its checks (R160, R163): body and CRC as received. -/
structure RxFrame where
  body : List Byte
  crc : Crc
deriving DecidableEq, Repr

/-- A command frame in the inbox (R164). -/
structure CommandFrame where
  tag : Byte
  kind : Byte
  payload : List Byte
  crc : Crc
deriving DecidableEq, Repr

/-- The seven link counters (R165). -/
structure LinkCounters where
  commandFrames : Nat
  acknowledgements : Nat
  gapDiscards : Nat
  badFrames : Nat
  crcErrors : Nat
  inboxOverruns : Nat
  duplicates : Nat
deriving DecidableEq, Repr

/-- R165: the link counters after power-on reset and RESET_N. -/
def LinkCounters.atReset : LinkCounters :=
  { commandFrames := 0, acknowledgements := 0, gapDiscards := 0, badFrames := 0, crcErrors := 0, inboxOverruns := 0,
    duplicates := 0 }

/-- The receiving side of the Link Interface (R160, R161, R164, R165). -/
structure Link where
  deframer : Deframer
  gapTimer : Option Nat
  received : List RxFrame
  inbox : List CommandFrame
  counters : LinkCounters
deriving DecidableEq, Repr

/-- R166: the receiving side after reset. -/
def Link.atReset : Link :=
  { deframer := .hunt, gapTimer := none, received := [], inbox := [], counters := LinkCounters.atReset }

/-- An entry of the reply cache (R168). -/
structure Cached where
  tag : Byte
  crc : Crc
  reply : Reply
deriving DecidableEq, Repr

/-- The Command Interpreter's cache, and whether it is executing a command (R168). -/
structure Interpreter where
  cache : Option Cached
  executing : Bool
deriving DecidableEq, Repr

/-- R168: the interpreter after reset. -/
def Interpreter.atReset : Interpreter := { cache := none, executing := false }

/-! ### Start-up (chapter 11) -/

inductive SystemState where
  | starting | ready
deriving DecidableEq, Repr

inductive ReplayPhase where
  | none | header | body | execute
deriving DecidableEq, Repr

/-- The Start-up Replay Unit (R178), with the record of a boot memory read on its way to it (R180). -/
structure Replay where
  system : SystemState
  phase : ReplayPhase
  abortRequested : Bool
  buffer : Memory
  scriptLength : Nat
  bytesRead : Nat
  pointer : Nat
  index : Nat
  executed : Nat
  record : Option Record
deriving DecidableEq, Repr

/-- R178: the Replay Unit after reset. DESIGN CHOICE (log entry 3): the system state is STARTING until R179 sets it. -/
def Replay.atReset : Replay :=
  { system := .starting, phase := .none, abortRequested := false, buffer := [], scriptLength := 0, bytesRead := 0,
    pointer := 8, index := 1, executed := 0, record := none }

/-! ### The whole part -/

/-- The state of the part. pending is the queue of commands that wait to be taken. -/
structure State where
  pending : List Instr
  powerOnHold : Bool
  resetNLow : Bool
  straps : Straps
  link : Link
  interp : Interpreter
  out : Outbound
  slots : Vector Slot 32
  slotNews : List SlotIx
  staging : Memory
  busy : PerPort (Option BusyRange)
  channels : Vector Channel 8
  poolFree : Nat
  tickets : List Ticket
  nextTicket : Nat
  arbiters : PerPort Arbiter
  engines : PerPort Engine
  portNews : PerPort (List PortState)
  pacers : Vector Pacer 4
  replay : Replay
deriving DecidableEq, Repr

/-- Reasons a step stops with a fault. -/
inductive Fault where
  /-- Raised by BYTE_COMPLETE and BUS_CONDITION_FORMED when the transaction in flight names staging positions above 8191,
  which do not exist (R45) and which no loaded descriptor names (R6). Safe: the model stops where the spec has no case. -/
  | stagingOutOfRange (port : Port)
deriving DecidableEq, Repr

/-- Reasons a step is refused. -/
inductive Refusal where
  /-- Raised by an arm of exec whose command has no meaning yet; no arm does. Safe. -/
  | notModelled (mnemonic : String)
deriving DecidableEq, Repr

/-- The part right after power-on reset, every block at its reset value and held until SUPPLY_VALID (R177, log entry 1).
DESIGN CHOICE (log entry 2): the sampled straps are low until the first start of operation samples them. -/
def State.reset : State where
  pending := []
  powerOnHold := true
  resetNLow := false
  straps := { bootEn := false, baud1 := false, baud0 := false }
  link := Link.atReset
  interp := Interpreter.atReset
  out := Outbound.atReset
  slots := Vector.replicate 32 Slot.atReset
  slotNews := []
  staging := []
  busy := { a := none, b := none, c := none, d := none }
  channels := Vector.replicate 8 Channel.atReset
  poolFree := Config.poolEntries
  tickets := []
  nextTicket := 0
  arbiters := { a := Arbiter.atReset, b := Arbiter.atReset, c := Arbiter.atReset, d := Arbiter.atReset }
  engines := { a := Engine.atReset, b := Engine.atReset, c := Engine.atReset, d := Engine.atReset }
  portNews := { a := [], b := [], c := [], d := [] }
  pacers := Vector.replicate 4 Pacer.atReset
  replay := Replay.atReset

end Sys2Proof.Machine
end

