-- ==== Sys2Proof/Machine/Flags.lean ====
section
/-! DEFINITION. Counting and the views the rules name: saturating counters, tick counts (R125), phases (R75), the in-flight
flag (R3), slot states (R32), notice classes and merge subjects (R138). -/

namespace Sys2Proof.Machine

/-- One more, stopping at 65535 (R1, R73, R126, R165). -/
def saturate (n : Nat) : Nat := min (n + 1) Config.saturation

/-- R125: ticks until the end of an interval of n ms; started while taking the effect of a tick, one fewer. -/
def intervalTicks (inTick : Bool) (ms : Nat) : Nat := if inTick then ms else ms + 1

/-- One tick of an interval: it stays at 0, run out, until its end is taken or it is cancelled. -/
def tickTimer (t : Option Nat) : Option Nat := t.map (· - 1)

/-- The interval has run out. -/
def ranOut (t : Option Nat) : Bool := t == some 0

/-- R75: the phase that an activity is. DESIGN CHOICE (log entry 38): R75 names no phase for the wait for the clock line and the
STOP that follow STRETCH_TIMEOUT; the model reports STOP there, also when the stretch arose in a cycle poll. -/
def Activity.phase : Activity → Phase
  | .none => .none
  | .retryGap | .formStart | .beforeSegment | .formRestart => .start
  | .address _ _ => .address
  | .offset _ => .offset
  | .dataOut _ => .dataOut
  | .dataIn _ | .dataInExtra => .dataIn
  | .betweenPolls | .pollStart | .poll => .cyclePoll
  | .formStop _ | .stretchClockWait | .stretchStop => .stop

/-- R75: while the port is in any state other than BUSY the phase is none. -/
def Engine.phase (e : Engine) : Phase := if e.portState = .busy then e.activity.phase else .none

/-- R100: the recovery attempt, 0 when no recovery is under way. -/
def Engine.recoveryAttempt (e : Engine) : Nat := (e.recovery.map (·.attempt)).getD 0

/-- R78: a stretch can arise at any clock pulse the engine releases, and at the START that follows at once on a segment's or a
poll's end; not in a retry gap, nor once STRETCH_TIMEOUT is taken. DESIGN CHOICE (log entry 43): R78 gives no bound for a clock
line held low again at the clock release of the STOP that follows STRETCH_TIMEOUT, so nothing is timed there. -/
def Activity.clocks : Activity → Bool
  | .none | .retryGap | .stretchClockWait | .stretchStop => false
  | .formStart | .beforeSegment | .formRestart | .address _ _ | .offset _ | .dataOut _ | .dataIn _ | .dataInExtra
  | .formStop _ | .betweenPolls | .pollStart | .poll => true

/-- R79: where the conflict check is made: in bytes the engine sends and while it forms a START, repeated START or STOP.
DEDUCED (log entry 19): not in the STOP that follows STRETCH_TIMEOUT, where R78 settles a low line. -/
def Activity.checksConflict : Activity → Bool
  | .none | .retryGap | .stretchClockWait | .stretchStop | .dataIn _ | .dataInExtra => false
  | .formStart | .beforeSegment | .formRestart | .address _ _ | .offset _ | .dataOut _ | .formStop _ | .betweenPolls
  | .pollStart | .poll => true

/-- R93: the bus is closed and no START is being formed, so that an abort request ends the transaction at once. -/
def Activity.busClosed : Activity → Bool
  | .retryGap | .beforeSegment | .betweenPolls => true
  | .none | .formStart | .formRestart | .address _ _ | .offset _ | .dataOut _ | .dataIn _ | .dataInExtra | .formStop _
  | .pollStart | .poll | .stretchClockWait | .stretchStop => false

/-- R3: a channel is in flight while its head status is ON_PORT or PAUSING. -/
def HeadStatus.inFlight : HeadStatus → Bool
  | .onPort _ | .pausing => true
  | .none | .waiting | .candidate _ => false

/-- R14: a head that a slot or port change re-evaluates. -/
def HeadStatus.waits : HeadStatus → Bool
  | .waiting | .candidate _ => true
  | .none | .onPort _ | .pausing => false

/-- The four states of a slot (R32), as coded in R191. -/
inductive SlotState where
  | vacant | online | suspect | fenced
deriving DecidableEq, Repr

/-- R32: the state of a slot. -/
def Slot.state (sl : Slot) : SlotState :=
  match sl.target with
  | none => .vacant
  | some t =>
    match t.standing with
    | .online => .online
    | .suspect => .suspect
    | .fenced => .fenced

/-- R37: results counted against the target. -/
def Result.countsAgainstTarget : Result → Bool
  | .addrNak | .offsetNak | .dataNak | .stretchTimeout | .cycleTimeout => true
  | .done | .busConflict | .portFailed | .targetFenced | .targetVacant | .range | .aborted => false

/-- R5, R48, R49: staging bytes that a transfer occupies. -/
def Transfer.span (t : Transfer) : Nat :=
  match t.op with
  | .read | .write => t.length
  | .watch _ _ => 3 * t.length

/-- R49: the direction of a transfer's busy range. -/
def Transfer.direction (t : Transfer) : Direction :=
  match t.op with
  | .read | .watch _ _ => .writes
  | .write => .reads

/-- The staging range of a transfer (section 3.1). -/
def Transfer.busyRange (t : Transfer) : BusyRange :=
  { first := t.position, length := t.span, direction := t.direction }

/-- Rank of a channel priority (R60). -/
def Priority.rank : Priority → Nat
  | .low => 0
  | .normal => 1
  | .high => 2
  | .urgent => 3

/-- R138: the class of a START_REPORT by its outcome. -/
def StartOutcome.noticeClass : StartOutcome → NoticeClass
  | .complete | .skipped | .noScript => .status
  | .badHeader | .tooLong | .readFault | .crcFault | .badRecord | .commandFailed | .aborted => .alarm

/-- R138: the class of a notice kind. -/
def NoticeKind.noticeClass : NoticeKind → NoticeClass
  | .channelHalted _ _ _ _ | .targetFenced _ _ | .portFailed _ => .alarm
  | .startReport outcome _ _ _ => outcome.noticeClass
  | .descFailed _ _ _ _ _ | .xferDone _ _ _ | .watchHit _ _ _ _ _ | .paceOverrun _ _ | .portRecovered _ _ => .status
  | .halfPass _ _ | .passDone _ _ | .inboxOverflow _ => .info

/-- Merge subjects (R138). -/
inductive MergeSubject where
  | watchHit (fromTicket : Bool) (number : Nat) (index : Nat)
  | paceOverrun (channel : ChannelIx)
  | halfPass (channel : ChannelIx)
  | passDone (channel : ChannelIx)
  | inboxOverflow
deriving DecidableEq, Repr

/-- R138: the merge subject of a notice kind; none for a kind that does not merge. -/
def NoticeKind.subject : NoticeKind → Option MergeSubject
  | .watchHit t n i _ _ => some (.watchHit t n i)
  | .paceOverrun c _ => some (.paceOverrun c)
  | .halfPass c _ => some (.halfPass c)
  | .passDone c _ => some (.passDone c)
  | .inboxOverflow _ => some .inboxOverflow
  | .channelHalted _ _ _ _ | .targetFenced _ _ | .portFailed _ | .startReport _ _ _ _ | .descFailed _ _ _ _ _
  | .xferDone _ _ _ | .portRecovered _ _ => none

def Notice.isAlarm (n : Notice) : Bool := n.kind.noticeClass == .alarm

/-- A notice that is QUEUED and of this class. -/
def Notice.queuedOf (cls : NoticeClass) (n : Notice) : Bool := !n.inWindow && n.kind.noticeClass == cls

/-- R154: ATTN_N is driven low while at least one ALARM is held. -/
def attnLevel (held : List Notice) : Bool := held.any Notice.isAlarm

/-- R136: the number of WINDOW notices. -/
def windowCount (held : List Notice) : Nat := held.countP (·.inWindow)

end Sys2Proof.Machine
end

