-- ==== Sys2Proof/Machine/Memory.lean ====
section
/-! DEFINITION. Byte memory in its one canonical form (staging memory, R45; the script buffer, R178), and staging ranges
(R50). An unlisted address reads 0, the value of every byte after reset. -/

namespace Sys2Proof.Machine

/-- The byte at an address; an address that is not listed reads 0 (R45). -/
def Memory.read (m : Memory) (a : Nat) : Byte :=
  match m with
  | [] => 0
  | (k, b) :: rest => if k = a then b else Memory.read rest a

/-- The memory with byte b at address a, in canonical form. -/
def Memory.write (m : Memory) (a : Nat) (b : Byte) : Memory :=
  match m with
  | [] => if b = 0 then [] else [(a, b)]
  | (k, v) :: rest =>
    if a < k then (if b = 0 then (k, v) :: rest else (a, b) :: (k, v) :: rest)
    else if a = k then (if b = 0 then rest else (a, b) :: rest)
    else (k, v) :: Memory.write rest a b

/-- Bytes stored at a and the addresses after it, in order (R53). -/
def Memory.writeBytes (m : Memory) (a : Nat) : List Byte → Memory
  | [] => m
  | b :: rest => Memory.writeBytes (Memory.write m a b) (a + 1) rest

/-- The n bytes from a onwards, in ascending order (R54). -/
def Memory.readBytes (m : Memory) (a n : Nat) : List Byte := (List.range n).map (fun i => Memory.read m (a + i))

/-- Every listed address is above lo, addresses rise strictly, and no byte 0 is listed. -/
def Memory.above (lo : Option Nat) : Memory → Bool
  | [] => true
  | (k, b) :: rest => (match lo with | none => true | some l => decide (l < k)) && decide (b ≠ 0) && Memory.above (some k) rest

/-- The canonical form: addresses strictly rising, no entry equal to what an unlisted address reads as. -/
def Memory.wf (m : Memory) : Bool := Memory.above none m

/-- R50: two ranges have a position in common. -/
def BusyRange.overlaps (r q : BusyRange) : Bool :=
  decide (r.first < q.first + q.length) && decide (q.first < r.first + r.length)

/-- R50: two ranges overlap and at least one of them has direction WRITES. -/
def BusyRange.conflicts (r q : BusyRange) : Bool :=
  r.overlaps q && (r.direction == .writes || q.direction == .writes)

end Sys2Proof.Machine
end

