-- ==== Sys2Proof/Machine/Ops.lean ====
section
/-! DEFINITION. The named operations over the state: one reader and one writer for each block's records, the sampled port
states, the arbiters' candidate sets, counting ticks, and the reset of every block (R177). -/

namespace Sys2Proof.Machine

/-- The value of one port. -/
def PerPort.get {α : Type} (v : PerPort α) : Port → α
  | .a => v.a
  | .b => v.b
  | .c => v.c
  | .d => v.d

/-- The same but for one port. -/
def PerPort.set {α : Type} (v : PerPort α) (p : Port) (x : α) : PerPort α :=
  match p with
  | .a => { v with a := x }
  | .b => { v with b := x }
  | .c => { v with c := x }
  | .d => { v with d := x }

/-- A function of each port's value. -/
def PerPort.map {α β : Type} (f : α → β) (v : PerPort α) : PerPort β :=
  { a := f v.a, b := f v.b, c := f v.c, d := f v.d }

/-- A function of each port's two values. -/
def PerPort.zipWith {α β γ : Type} (f : α → β → γ) (v : PerPort α) (w : PerPort β) : PerPort γ :=
  { a := f v.a w.a, b := f v.b w.b, c := f v.c w.c, d := f v.d w.d }

/-- The four ports in order. -/
def allPorts : List Port := [.a, .b, .c, .d]

/-- The eight channels in ascending order. -/
def allChannels : List ChannelIx := [0, 1, 2, 3, 4, 5, 6, 7]

def State.channel (s : State) (c : ChannelIx) : Channel := s.channels[c]
def State.setChannel (s : State) (c : ChannelIx) (ch : Channel) : State := { s with channels := s.channels.set c ch }
def State.slot (s : State) (n : SlotIx) : Slot := s.slots[n]
def State.setSlot (s : State) (n : SlotIx) (sl : Slot) : State := { s with slots := s.slots.set n sl }
def State.pacer (s : State) (n : PacerIx) : Pacer := s.pacers[n]
def State.setPacer (s : State) (n : PacerIx) (pc : Pacer) : State := { s with pacers := s.pacers.set n pc }
def State.engine (s : State) (p : Port) : Engine := s.engines.get p
def State.setEngine (s : State) (p : Port) (e : Engine) : State := { s with engines := s.engines.set p e }
def State.arbiter (s : State) (p : Port) : Arbiter := s.arbiters.get p
def State.setArbiter (s : State) (p : Port) (x : Arbiter) : State := { s with arbiters := s.arbiters.set p x }
def State.portState (s : State) (p : Port) : PortState := (s.engine p).portState

/-- The part takes events: neither power-on reset nor a low RESET_N holds it (R177). -/
def State.operating (s : State) : Bool := !s.powerOnHold && !s.resetNLow

/-- The target table announces a slot (R39). -/
def State.announceSlot (s : State) (n : SlotIx) : State := { s with slotNews := s.slotNews ++ [n] }

/-- R58: a grant occasion arises at a port. -/
def State.raiseOccasion (s : State) (p : Port) : State := s.setArbiter p { s.arbiter p with occasion := true }

/-- R58: a grant occasion arises at a port that is IDLE. -/
def State.raiseOccasionIfIdle (s : State) (p : Port) : State :=
  if s.portState p = .idle then s.raiseOccasion p else s

/-- A port takes a state: a change is announced (R107), and a port that becomes IDLE has a grant occasion (R58). -/
def State.enterPortState (s : State) (p : Port) (st : PortState) : State :=
  if s.portState p = st then s
  else
    let s1 := s.setEngine p { s.engine p with portState := st }
    let s2 := { s1 with portNews := s1.portNews.set p (s1.portNews.get p ++ [st]) }
    if st = .idle then s2.raiseOccasion p else s2

/-- R56: the channel heads in a port's candidate set. -/
def State.candidateHeads (s : State) (p : Port) : List ChannelIx :=
  allChannels.filter (fun c => (s.channel c).head == .candidate p)

/-- R56: the tickets in a port's candidate set, in the order the Direct Queue accepted them. -/
def State.candidateTickets (s : State) (p : Port) : List Ticket := s.tickets.filter (fun t => t.state == .candidate p)

/-- The descriptor at a channel's position (R1). -/
def Channel.headDescriptor (ch : Channel) : Option Descriptor := ch.ring[ch.position]?

/-- The transfer at a channel's position, if it is one. -/
def Channel.headTransfer (ch : Channel) : Option Transfer :=
  match ch.headDescriptor with
  | some (.transfer t) => some t
  | some (.pause _) => none
  | none => none

/-- R49: the busy-range list. -/
def State.busyList (s : State) : List BusyRange := allPorts.filterMap s.busy.get

/-- The first element that meets p, changed by f. -/
def modifyFirst {α : Type} (p : α → Bool) (f : α → α) : List α → List α
  | [] => []
  | x :: rest => if p x then f x :: rest else x :: modifyFirst p f rest

/-- R64, R137: the first number from next on, wrapping from 255 to 0, that is not used. -/
def freshNumber (used : List Nat) (next : Nat) : Nat :=
  (((List.range 256).map (fun i => (next + i) % 256)).find? (fun n => !used.contains n)).getD (next % 256)

/-- The number after n, wrapping from 255 to 0 (R64, R137). -/
def nextNumberAfter (n : Nat) : Nat := (n + 1) % 256

/-- The engine has begun to form the START of the next segment (R86) or poll (R87), if it is before one. -/
def Engine.startBegun (e : Engine) : Engine :=
  { e with
    activity :=
      if e.activity = .beforeSegment then .formStart
      else if e.activity = .betweenPolls then .pollStart
      else e.activity }

/-- R78: the stretch limit at a tick that finds the clock line held low. The stretch began before this tick, the first of the
n+1 of its limit; one under way counts on. -/
def Engine.stretchTick (e : Engine) (t : Transaction) : Option Nat :=
  match e.stretchTimer with
  | none => some t.defn.stretchLimit
  | some k => some (k - 1)

/-- One tick for an engine's intervals (R125). held: the clock line reads low though the engine has released it, which is a
stretch where one can arise (R78, log entry 9); otherwise no stretch is under way. -/
def Engine.tick (e : Engine) (held : Bool) : Engine :=
  let e1 := { e with waitTimer := tickTimer e.waitTimer, cycleTimer := tickTimer e.cycleTimer, stretchTimer := none }
  match e.transaction with
  | none => e1
  | some t => if held && e.activity.clocks then { e1.startBegun with stretchTimer := e.stretchTick t } else e1

/-- One tick for a channel's pause timer and pass gap (R18, R21). -/
def Channel.tick (ch : Channel) : Channel :=
  { ch with pauseTimer := tickTimer ch.pauseTimer, passGap := tickTimer ch.passGap }

/-- One tick for a pacer (R126, R132): its time falls by one; the tick that would bring it to 0 is the expiry, which is then due
before anything else is taken (log entry 8). -/
def Pacer.tick (pc : Pacer) : Pacer :=
  if pc.running then
    if pc.remaining ≤ 1 then { pc with expiring := true } else { pc with remaining := pc.remaining - 1 }
  else pc

/-- One tick for a notice's retransmit timer (R146). -/
def Notice.tick (n : Notice) : Notice :=
  match n.timer with
  | .running t => { n with timer := .running (t - 1) }
  | .none => n
  | .due => n

/-- Every block at its reset value (R177); keepLink: the link counters keep their values, as RESTART leaves them (R165).
The holds, the sampled straps and the queue of commands are no block's. -/
def State.resetBlocks (s : State) (keepLink : Bool) : State :=
  { State.reset with
    pending := s.pending, powerOnHold := s.powerOnHold, resetNLow := s.resetNLow, straps := s.straps,
    link := { Link.atReset with counters := if keepLink then s.link.counters else LinkCounters.atReset } }

/-- The outcome of a step of the part. -/
abbrev StepOutcome := Host.Outcome State Fault Refusal

end Sys2Proof.Machine
end

