-- ==== Sys2Proof/Machine/Operands.lean ====
section
/-! DEFINITION. The encodings of chapter 12: byte order (R191), code fields, descriptors (R193), target definitions (R194),
completion records (R192), and the command kinds with their payload bounds (R195). -/

namespace Sys2Proof.Machine

/-! ### Bytes -/

def byte1 (n : Nat) : List Byte := [BitVec.ofNat 8 n]
/-- R191: least significant byte first. -/
def bytes2 (n : Nat) : List Byte := [BitVec.ofNat 8 n, BitVec.ofNat 8 (n / 256)]
def bytes3 (n : Nat) : List Byte := [BitVec.ofNat 8 n, BitVec.ofNat 8 (n / 256), BitVec.ofNat 8 (n / 65536)]
def bytes4 (n : Nat) : List Byte :=
  [BitVec.ofNat 8 n, BitVec.ofNat 8 (n / 256), BitVec.ofNat 8 (n / 65536), BitVec.ofNat 8 (n / 16777216)]

/-- The byte at a place of a payload, as a number. -/
def at1 (payload : List Byte) (i : Nat) : Nat := (payload.getD i 0).toNat
/-- R191: a two-byte field, least significant byte first. -/
def at2 (payload : List Byte) (i : Nat) : Nat := at1 payload i + 256 * at1 payload (i + 1)
/-- R191: a three-byte field. -/
def at3 (payload : List Byte) (i : Nat) : Nat := at2 payload i + 65536 * at1 payload (i + 2)

/-- R191: a flag byte holds 0 for clear and 1 for set. -/
def flagOf : Nat → Option Bool
  | 0 => some false
  | 1 => some true
  | _ => none

def flagCode (b : Bool) : Nat := if b then 1 else 0

/-! ### Code fields (R191, R192) -/

def portCode : Port → Nat
  | .a => 1
  | .b => 2
  | .c => 3
  | .d => 4

def portOf : Nat → Option Port
  | 1 => some .a
  | 2 => some .b
  | 3 => some .c
  | 4 => some .d
  | _ => none

def Priority.code : Priority → Nat := Priority.rank

def priorityOf : Nat → Option Priority
  | 0 => some .low
  | 1 => some .normal
  | 2 => some .high
  | 3 => some .urgent
  | _ => none

def ChannelMode.code : ChannelMode → Nat
  | .once => 0
  | .circular => 1

def channelModeOf : Nat → Option ChannelMode
  | 0 => some .once
  | 1 => some .circular
  | _ => none

def FailurePolicy.code : FailurePolicy → Nat
  | .halt => 0
  | .skip => 1

def failurePolicyOf : Nat → Option FailurePolicy
  | 0 => some .halt
  | 1 => some .skip
  | _ => none

/-- R191: 0 to 3, or 0xFF for none. -/
def pacerSettingCode : Option PacerIx → Nat
  | none => 0xFF
  | some n => n.val

/-- R191: none of the outer option is a value outside the set. -/
def pacerSettingOf (n : Nat) : Option (Option PacerIx) :=
  if n = 0xFF then some none else if h : n < 4 then some (some ⟨n, h⟩) else none

def Wants.code (w : Wants) : Nat :=
  flagCode w.half + 2 * flagCode w.pass + 4 * flagCode w.fail + 8 * flagCode w.overrun

/-- R191: bits 4 to 7 are clear. -/
def wantsOf (n : Nat) : Option Wants :=
  if n < 16 then
    some { half := n.testBit 0, pass := n.testBit 1, fail := n.testBit 2, overrun := n.testBit 3 }
  else none

def ChannelState.code : ChannelState → Nat
  | .off => 0
  | .paced => 1
  | .running => 2
  | .halted => 3
  | .stopping => 4

def HeadStatus.code : HeadStatus → Nat
  | .none => 0
  | .waiting => 1
  | .candidate _ => 2
  | .onPort _ => 3
  | .pausing => 4

def haltReasonCode : Option HaltReason → Nat
  | none => 0
  | some .failure => 1
  | some .watchHold => 2

def SlotState.code : SlotState → Nat
  | .vacant => 0
  | .online => 1
  | .suspect => 2
  | .fenced => 3

def TargetKind.code : TargetKind → Nat
  | .memory => 1
  | .register => 2
  | .stream => 3

def targetKindOf : Nat → Option TargetKind
  | 1 => some .memory
  | 2 => some .register
  | 3 => some .stream
  | _ => none

def Speed.code : Speed → Nat
  | .khz100 => 1
  | .khz400 => 2

def speedOf : Nat → Option Speed
  | 1 => some .khz100
  | 2 => some .khz400
  | _ => none

def PortState.code : PortState → Nat
  | .disabled => 0
  | .idle => 1
  | .busy => 2
  | .recovering => 3
  | .failed => 4

def Phase.code : Phase → Nat
  | .none => 0
  | .start => 1
  | .address => 2
  | .offset => 3
  | .dataOut => 4
  | .dataIn => 5
  | .cyclePoll => 6
  | .stop => 7

def PacerMode.code : PacerMode → Nat
  | .repeat_ => 0
  | .single => 1

def pacerModeOf : Nat → Option PacerMode
  | 0 => some .repeat_
  | 1 => some .single
  | _ => none

def SystemState.code : SystemState → Nat
  | .starting => 0
  | .ready => 1

def WatchMode.code : WatchMode → Nat
  | .onChange => 1
  | .onMatch => 2
  | .onDiffer => 3

def watchModeOf : Nat → Option WatchMode
  | 1 => some .onChange
  | 2 => some .onMatch
  | 3 => some .onDiffer
  | _ => none

def NoticeClass.code : NoticeClass → Nat
  | .alarm => 1
  | .status => 2
  | .info => 3

def Status.code : Status → Nat
  | .ok => 0x00
  | .unknownKind => 0x01
  | .badLength => 0x02
  | .badValue => 0x03
  | .wrongState => 0x04
  | .noRoom => 0x05
  | .busy => 0x06
  | .busyStarting => 0x07
  | .busyRange => 0x08
  | .range => 0x09
  | .duplicate => 0x0A
  | .noTarget => 0x0B

def Result.code : Result → Nat
  | .done => 0x00
  | .addrNak => 0x01
  | .offsetNak => 0x02
  | .dataNak => 0x03
  | .stretchTimeout => 0x04
  | .cycleTimeout => 0x05
  | .busConflict => 0x06
  | .portFailed => 0x07
  | .targetFenced => 0x08
  | .targetVacant => 0x09
  | .range => 0x0A
  | .aborted => 0x0B

def StartOutcome.code : StartOutcome → Nat
  | .complete => 0
  | .skipped => 1
  | .noScript => 2
  | .badHeader => 3
  | .tooLong => 4
  | .readFault => 5
  | .crcFault => 6
  | .badRecord => 7
  | .commandFailed => 8
  | .aborted => 9

/-- R192: a completion record in four bytes; an empty last result is 0xFF and three zero bytes. -/
def recordBytes : Option Record → List Byte
  | none => [0xFF, 0, 0, 0]
  | some r => byte1 r.result.code ++ bytes2 r.moved ++ byte1 r.attempts

/-! ### Descriptors (section 12.4, R6, R193) -/

/-- A READ or WRITE from its eight bytes, if it passes the load-time check of R6. -/
def plainTransferOf (op : TransferOp) (b : List Byte) : Option Transfer :=
  let length := at2 b 4
  let position := at2 b 6 % 8192
  if h : at1 b 1 < 32 then
    if 1 ≤ length ∧ length ≤ 256 ∧ position + length ≤ Config.stagingBytes then
      some { op := op, slot := ⟨at1 b 1, h⟩, offset := at2 b 2, length := length, position := position }
    else none
  else none

/-- A WATCH from its eight bytes, if it passes the load-time check of R6. -/
def watchTransferOf (b : List Byte) : Option Transfer :=
  let length := at2 b 4
  let position := at2 b 6 % 8192
  if h : at1 b 1 < 32 then
    match watchModeOf (at2 b 6 / 8192 % 4) with
    | none => none
    | some mode =>
      if 1 ≤ length ∧ length ≤ 16 ∧ position + 3 * length ≤ Config.stagingBytes then
        some { op := .watch mode (decide (32768 ≤ at2 b 6)), slot := ⟨at1 b 1, h⟩, offset := at2 b 2,
               length := length, position := position }
      else none
  else none

/-- R193: a descriptor from its eight bytes, by the table of section 12.4 and the load-time checks of R6; none when one
fails. -/
def descriptorOf (b : List Byte) : Option Descriptor :=
  match at1 b 0 with
  | 1 => (plainTransferOf .read b).map .transfer
  | 2 => (plainTransferOf .write b).map .transfer
  | 3 => (watchTransferOf b).map .transfer
  | 4 => if at2 b 2 = 0 then none else some (.pause (at2 b 2))
  | _ => none

def TransferOp.code : TransferOp → Nat
  | .read => 1
  | .write => 2
  | .watch _ _ => 3

/-- R193: bits 13 and 14 hold the watch mode and bit 15 the hold flag; 0 for READ and WRITE. -/
def TransferOp.highBits : TransferOp → Nat
  | .read => 0
  | .write => 0
  | .watch mode hold => 8192 * mode.code + 32768 * flagCode hold

/-- R193: a stored descriptor encoded afresh, every ignored byte and bit 0. -/
def Descriptor.bytes : Descriptor → List Byte
  | .transfer t =>
    byte1 t.op.code ++ byte1 t.slot.val ++ bytes2 t.offset ++ bytes2 t.length ++ bytes2 (t.position + t.op.highBits)
  | .pause ms => byte1 4 ++ byte1 0 ++ bytes2 ms ++ bytes2 0 ++ bytes2 0

/-- The n descriptors at the front of a run of bytes, eight bytes each; none when one fails its check. -/
def descriptorsOf : Nat → List Byte → Option (List Descriptor)
  | 0, _ => some []
  | n + 1, b =>
    match descriptorOf (b.take 8), descriptorsOf n (b.drop 8) with
    | some d, some rest => some (d :: rest)
    | _, _ => none

/-! ### Target definitions (section 12.5, R34, R194) -/

/-- R34: the valid combinations of a definition. -/
def Definition.valid (d : Definition) : Bool :=
  decide (0x08 ≤ d.address ∧ d.address ≤ 0x77)
  && (match d.kind with
      | .stream => decide (d.offsetWidth = 0)
      | .memory | .register => decide (d.offsetWidth = 1 ∨ d.offsetWidth = 2))
  && decide (1 ≤ d.extent ∧ d.extent ≤ 65536)
  && (decide (d.offsetWidth ≠ 1) || decide (d.extent ≤ 256))
  && (match d.kind with
      | .memory => [8, 16, 32, 64, 128, 256].contains d.pageSize
      | .register | .stream => decide (d.pageSize = 0))
  && decide (1 ≤ d.stretchLimit ∧ d.stretchLimit ≤ 50)
  && (match d.kind with
      | .memory => decide (1 ≤ d.cycleLimit ∧ d.cycleLimit ≤ 100)
      | .register | .stream => decide (d.cycleLimit = 0))
  && decide (d.retries ≤ 3)
  && decide (1 ≤ d.fenceThreshold ∧ d.fenceThreshold ≤ 15)

/-- R34: a field given as 0 takes a default. -/
def orDefault (n dflt : Nat) : Nat := if n = 0 then dflt else n

/-- R34, R194: a definition from its fourteen bytes, with the defaults applied; none when it breaks a valid combination. -/
def definitionOf (b : List Byte) : Option Definition :=
  match portOf (at1 b 0), targetKindOf (at1 b 2), speedOf (at1 b 9) with
  | some port, some kind, some speed =>
    let d : Definition :=
      { port := port, address := at1 b 1, kind := kind, offsetWidth := at1 b 3, extent := at3 b 4, pageSize := at2 b 7,
        speed := speed, stretchLimit := orDefault (at1 b 10) 10,
        cycleLimit := match kind with
          | .memory => orDefault (at1 b 11) 10
          | .register | .stream => at1 b 11
        retries := at1 b 12, fenceThreshold := orDefault (at1 b 13) 3 }
    if d.valid then some d else none
  | _, _, _ => none

/-- R194: the fourteen bytes of a stored definition. -/
def Definition.bytes (d : Definition) : List Byte :=
  byte1 (portCode d.port) ++ byte1 d.address ++ byte1 d.kind.code ++ byte1 d.offsetWidth ++ bytes3 d.extent
  ++ bytes2 d.pageSize ++ byte1 d.speed.code ++ byte1 d.stretchLimit ++ byte1 d.cycleLimit ++ byte1 d.retries
  ++ byte1 d.fenceThreshold

/-! ### Command kinds (R195) -/

/-- The command kinds of R195. -/
inductive CommandKind where
  | ping | identify | status | stats | restart | abortStart
  | tgtSet | tgtGet | tgtRemove | tgtFence | tgtUnfence
  | memWrite | memRead
  | chConfig | chLoad | chClear | chStart | chStop | chAbort | chResume | chGet
  | pcSet | pcStart | pcStop | pcGet
  | ptEnable | ptDisable | ptReset | ptGet
  | xfer | xferCancel
deriving DecidableEq, Repr

/-- R195: the kind of a code; none is no command kind. -/
def commandKindOf : Nat → Option CommandKind
  | 0x01 => some .ping
  | 0x02 => some .identify
  | 0x03 => some .status
  | 0x04 => some .stats
  | 0x05 => some .restart
  | 0x06 => some .abortStart
  | 0x10 => some .tgtSet
  | 0x11 => some .tgtGet
  | 0x12 => some .tgtRemove
  | 0x13 => some .tgtFence
  | 0x14 => some .tgtUnfence
  | 0x20 => some .memWrite
  | 0x21 => some .memRead
  | 0x30 => some .chConfig
  | 0x31 => some .chLoad
  | 0x32 => some .chClear
  | 0x33 => some .chStart
  | 0x34 => some .chStop
  | 0x35 => some .chAbort
  | 0x36 => some .chResume
  | 0x37 => some .chGet
  | 0x40 => some .pcSet
  | 0x41 => some .pcStart
  | 0x42 => some .pcStop
  | 0x43 => some .pcGet
  | 0x50 => some .ptEnable
  | 0x51 => some .ptDisable
  | 0x52 => some .ptReset
  | 0x53 => some .ptGet
  | 0x60 => some .xfer
  | 0x61 => some .xferCancel
  | _ => none

/-- R195: least and greatest payload length of a kind. -/
def CommandKind.bounds : CommandKind → Nat × Nat
  | .ping | .identify | .status | .restart | .abortStart => (0, 0)
  | .stats => (0, 1)
  | .tgtSet => (15, 15)
  | .tgtGet | .tgtRemove | .tgtFence | .tgtUnfence => (1, 1)
  | .memWrite => (4, 243)
  | .memRead => (3, 3)
  | .chConfig => (6, 6)
  | .chLoad => (11, 67)
  | .chClear | .chStart | .chStop | .chAbort => (1, 1)
  | .chResume => (2, 2)
  | .chGet => (1, 2)
  | .pcSet => (4, 4)
  | .pcStart | .pcStop | .pcGet => (1, 1)
  | .ptEnable | .ptDisable | .ptReset | .ptGet => (1, 1)
  | .xfer => (8, 8)
  | .xferCancel => (1, 1)

/-- R169 step 3: the payload length lies within the bounds of the kind. -/
def CommandKind.lengthFits (k : CommandKind) (payload : List Byte) : Bool :=
  decide (k.bounds.1 ≤ payload.length ∧ payload.length ≤ k.bounds.2)

/-- R186: the kinds admitted from the link while the system is STARTING. -/
def CommandKind.admittedAtStart : CommandKind → Bool
  | .ping | .identify | .status | .stats | .restart | .abortStart => true
  | .tgtSet | .tgtGet | .tgtRemove | .tgtFence | .tgtUnfence | .memWrite | .memRead | .chConfig | .chLoad | .chClear
  | .chStart | .chStop | .chAbort | .chResume | .chGet | .pcSet | .pcStart | .pcStop | .pcGet | .ptEnable | .ptDisable
  | .ptReset | .ptGet | .xfer | .xferCancel => false

end Sys2Proof.Machine
end

