-- ==== Sys2Proof/Machine/Notices.lean ====
section
/-! DEFINITION. Chapter 9, Notices, and the sending of frames (R158, R167): claims, the transmitter's choice, FRAME_END,
RETRANSMIT_TIMER_EXPIRY, acknowledgements, MUTE and ATTN_N. -/

namespace Sys2Proof.Machine

/-! ### Frames sent (R158, R167, R190, R197) -/

/-- R158, R190: a frame's bytes from its body. -/
def frameBytes (body : List Byte) : List Byte :=
  let covered := BitVec.ofNat 8 body.length :: body
  let crc := crc16 covered
  Config.startByte :: covered ++ bytes2 crc.toNat

/-- R190: class codes. -/
def classCommand : Nat := 0x01
def classReply : Nat := 0x02
def classNotice : Nat := 0x03
def classNoticeAck : Nat := 0x04

/-- R167, R195: a reply frame; with a status other than OK it carries the status alone. -/
def Reply.frame (r : Reply) : List Byte :=
  frameBytes (byte1 classReply ++ [r.tag, r.kind] ++ byte1 r.status.code ++ r.fields)

/-- R197: kind codes of notices. -/
def NoticeKind.code : NoticeKind → Nat
  | .channelHalted _ _ _ _ => 0x01
  | .targetFenced _ _ => 0x02
  | .portFailed _ => 0x03
  | .startReport _ _ _ _ => 0x04
  | .descFailed _ _ _ _ _ => 0x05
  | .xferDone _ _ _ => 0x06
  | .watchHit _ _ _ _ _ => 0x07
  | .paceOverrun _ _ => 0x08
  | .portRecovered _ _ => 0x09
  | .halfPass _ _ => 0x0A
  | .passDone _ _ => 0x0B
  | .inboxOverflow _ => 0x0C

/-- R197: the kind fields of a notice frame. -/
def NoticeKind.fields : NoticeKind → List Byte
  | .channelHalted c pos r sl => byte1 c.val ++ byte1 pos ++ byte1 r.code ++ byte1 sl.val
  | .targetFenced sl r => byte1 sl.val ++ byte1 r.code
  | .portFailed p => byte1 (portCode p)
  | .startReport o n i st => byte1 o.code ++ bytes2 n ++ bytes2 i ++ byte1 st.code
  | .descFailed c pos r sl att => byte1 c.val ++ byte1 pos ++ byte1 r.code ++ byte1 sl.val ++ byte1 att
  | .xferDone n r moved => byte1 n ++ byte1 r.code ++ bytes2 moved
  | .watchHit t n i mode reading =>
    byte1 (flagCode t) ++ byte1 n ++ byte1 i ++ byte1 mode.code ++ byte1 reading.length ++ reading
  | .paceOverrun c n => byte1 c.val ++ bytes2 n
  | .portRecovered p n => byte1 (portCode p) ++ byte1 n
  | .halfPass c n => byte1 c.val ++ bytes2 n
  | .passDone c n => byte1 c.val ++ bytes2 n
  | .inboxOverflow n => bytes2 n

/-- R146: the discarded stamp, the discarded counter or 65535 if it is larger. -/
def discardedStamp (counters : NoticeCounters) : Nat := min counters.discarded.toNat 65535

/-- R146, R197: the frame of a notice, with transmissions already increased. -/
def Notice.frame (n : Notice) (stamp : Nat) : List Byte :=
  frameBytes (byte1 classNotice ++ byte1 n.number ++ byte1 n.kind.code ++ byte1 n.kind.noticeClass.code
    ++ byte1 n.merges ++ byte1 n.transmissions ++ bytes2 stamp ++ n.kind.fields)

/-! ### Claims (R139 to R143) -/

/-- R140: the notice is QUEUED and has the subject. -/
def Notice.mergesWith (subject : MergeSubject) (n : Notice) : Bool := !n.inWindow && n.kind.subject == some subject

/-- R140: whether a claim merges into a held notice. -/
def canMerge (held : List Notice) (kind : NoticeKind) : Bool :=
  match kind.subject with
  | none => false
  | some subject => held.any (Notice.mergesWith subject)

/-- R140: the claim's fields replace the notice's; number, place and state stay. -/
def mergeInto (held : List Notice) (kind : NoticeKind) : List Notice :=
  match kind.subject with
  | none => held
  | some subject =>
    modifyFirst (Notice.mergesWith subject) (fun n => { n with kind := kind, merges := min (n.merges + 1) 255 }) held

/-- R142: the notices after displacing the one that a claim of this class displaces; none when it displaces none. -/
def displace (held : List Notice) (cls : NoticeClass) : Option (List Notice) :=
  match cls with
  | .info => none
  | .status => if held.any (Notice.queuedOf .info) then some (held.eraseP (Notice.queuedOf .info)) else none
  | .alarm =>
    if held.any (Notice.queuedOf .info) then some (held.eraseP (Notice.queuedOf .info))
    else if held.any (Notice.queuedOf .status) then some (held.eraseP (Notice.queuedOf .status))
    else none

/-- R137, R141: the claim stored as a new notice, and ATTN_N settled (R154). -/
def NoticeQueue.store (q : NoticeQueue) (kind : NoticeKind) : NoticeQueue :=
  let number := freshNumber (q.held.map (·.number)) q.nextNumber
  let held := q.held ++ [{ number := number, kind := kind, merges := 0, transmissions := 0, inWindow := false,
                           timer := .none }]
  { q with held := held, nextNumber := nextNumberAfter number, attnLow := attnLevel held }

/-- R155: the discarded counter increased by one. -/
def NoticeQueue.countDiscard (q : NoticeQueue) : NoticeQueue :=
  { q with counters := { q.counters with discarded := q.counters.discarded + 1 } }

/-- R139 to R142: the queue settles a claim. -/
def NoticeQueue.settle (q : NoticeQueue) (kind : NoticeKind) : NoticeQueue :=
  let q1 := { q with counters := { q.counters with created := q.counters.created + 1 } }
  if canMerge q1.held kind then
    { q1 with held := mergeInto q1.held kind, counters := { q1.counters with merged := q1.counters.merged + 1 } }
  else if q1.held.length < Config.noticeMax then q1.store kind
  else
    match displace q1.held kind.noticeClass with
    | some rest => ({ q1 with held := rest }.countDiscard).store kind
    | none => q1.countDiscard

/-! ### The transmitter (R144 to R148) -/

/-- R147: the notice is in WINDOW and due. -/
def Notice.isDue (n : Notice) : Bool := n.inWindow && n.timer == .due

/-- R146, R148: the notice as its frame is sent: in WINDOW, one transmission more, no timer while the frame is on the link. -/
def Notice.sent (n : Notice) : Notice :=
  { n with inWindow := true, transmissions := n.transmissions + 1, timer := .none }

/-- R145, item 3: the class of the QUEUED notice that is sent next. -/
def nextQueuedClass (held : List Notice) : NoticeClass :=
  if held.any (Notice.queuedOf .alarm) then .alarm else if held.any (Notice.queuedOf .status) then .status else .info

/-- R146, R148: the first notice that meets sel is sent. -/
def Outbound.sendNotice (o : Outbound) (sel : Notice → Bool) (again : Bool) : Outbound :=
  match o.notices.held.find? sel with
  | none => o
  | some n =>
    let q := o.notices
    let counters :=
      if again then { q.counters with retransmissions := q.counters.retransmissions + 1 } else q.counters
    { o with
      notices := { q with held := modifyFirst sel Notice.sent q.held, counters := counters }
      sending := some { source := .notice n.number, bytes := n.sent.frame (discardedStamp q.counters) } }

/-- R145: the transmitter's choice at an occasion: the waiting reply; else, unless MUTE, the oldest due WINDOW notice; else,
while the window has room, the QUEUED notice of the highest class and among those the oldest. After the reply to RESTART
it chooses no further frame (R176), and its choice waits while the interpreter's taking comes first (R168). -/
def Outbound.choose (o : Outbound) : Outbound :=
  if o.sending.isSome || o.restart == .replyGone || o.takingNext then o
  else
    match o.reply with
    | .pending r => { o with reply := .sending r, sending := some { source := .reply, bytes := r.frame } }
    | .empty | .sending _ =>
      if o.notices.muted then o
      else if o.notices.held.any Notice.isDue then o.sendNotice Notice.isDue true
      else if windowCount o.notices.held < Config.windowMax then
        o.sendNotice (Notice.queuedOf (nextQueuedClass o.notices.held)) false
      else o

/-- R139, R144: a claim; a stored notice may be chosen at once by an idle transmitter. DESIGN CHOICE (log entry 40): R144 and R143
let an idle transmitter's choice and a later claim come in either order; the model makes the choice within the step that
stores the notice, so the choice comes first. -/
def Outbound.claim (o : Outbound) (kind : NoticeKind) : Outbound :=
  { o with notices := o.notices.settle kind }.choose

/-- A block makes a claim on the Notice Queue (R139). -/
def State.claim (s : State) (kind : NoticeKind) : State := { s with out := s.out.claim kind }

/-- A claim that depends on a want (section 5.6). -/
def State.claimIf (s : State) (wanted : Bool) (kind : NoticeKind) : State := if wanted then s.claim kind else s

/-- A reply is placed in the reply slot (R168), which is an occasion for an idle transmitter (R144); a choice that waited for
the interpreter's taking is made now. -/
def Outbound.placeReply (o : Outbound) (r : Reply) : Outbound :=
  { o with reply := .pending r, takingNext := false }.choose

/-! ### Acknowledgement and MUTE (R149 to R153) -/

/-- R149: the notice is in WINDOW with this number. -/
def Notice.inWindowWith (number : Nat) (n : Notice) : Bool := n.inWindow && n.number == number

/-- R149: a WINDOW notice is retired, or the acknowledgement is stray. -/
def NoticeQueue.acknowledge (q : NoticeQueue) (number : Nat) : NoticeQueue :=
  if q.held.any (Notice.inWindowWith number) then
    let held := q.held.eraseP (Notice.inWindowWith number)
    { q with held := held, attnLow := attnLevel held,
             counters := { q.counters with acknowledged := q.counters.acknowledged + 1 } }
  else { q with counters := { q.counters with strayAcks := q.counters.strayAcks + 1 } }

/-- R153: at the end of MUTE every WINDOW notice has its transmissions set to 0 and becomes due. -/
def Notice.afterMute (n : Notice) : Notice :=
  if n.inWindow then { n with transmissions := 0, timer := .due } else n

/-- R153: an accepted frame has been heard. -/
def NoticeQueue.heard (q : NoticeQueue) : NoticeQueue :=
  if q.muted then { q with muted := false, held := q.held.map Notice.afterMute } else q

/-- R147: the timer of a WINDOW notice with this number has run out. -/
def Notice.timerOut (number : Nat) (n : Notice) : Bool := n.inWindowWith number && n.timer == .running 0

/-- R147: with transmissions 1 to 3 the notice becomes due; with 4 it does not. -/
def Notice.afterTimer (n : Notice) : Notice :=
  { n with timer := if Config.transmissionMax ≤ n.transmissions then .none else .due }

/-- R147, R151: the retransmit timer of the notice with this number has run out. -/
def NoticeQueue.timerExpiry (q : NoticeQueue) (number : Nat) : NoticeQueue :=
  match q.held.find? (Notice.timerOut number) with
  | none => q
  | some n =>
    let q1 := { q with held := modifyFirst (Notice.timerOut number) Notice.afterTimer q.held }
    if Config.transmissionMax ≤ n.transmissions ∧ q.muted = false then
      { q1 with muted := true, counters := { q1.counters with muteEntries := q1.counters.muteEntries + 1 } }
    else q1

/-- R146: at the end of its frame a notice that is still in WINDOW starts its retransmit timer. DEDUCED (log entry 25): one
that the end of MUTE has made due meanwhile stays due (R147). -/
def Notice.awaitsTimer (number : Nat) (n : Notice) : Bool := n.inWindowWith number && n.timer == .none

/-- R146: 250 ms counted from the end of the frame, which is no tick. -/
def Notice.startTimer (n : Notice) : Notice :=
  { n with timer := .running (intervalTicks false Config.retransmitMs) }

/-- R144: the frame on the link ends: the reply slot empties or the notice's timer starts; then the transmitter chooses,
unless the interpreter's taking comes first (R168) or the frame was the reply to RESTART (R176). -/
def Outbound.frameEnd (o : Outbound) (takingFirst : Bool) : Outbound :=
  match o.sending with
  | none => o
  | some f =>
    match f.source with
    | .reply =>
      let o1 := { o with sending := none, reply := .empty }
      if o.restart = .executed then { o1 with restart := .replyGone }
      else if takingFirst then { o1 with takingNext := true }
      else o1.choose
    | .notice number =>
      ({ o with
         sending := none
         notices :=
          { o.notices with
            held := modifyFirst (Notice.awaitsTimer number) Notice.startTimer o.notices.held } }).choose

/-- FRAME_END (R144). The interpreter's taking can come first only when the inbox holds a frame (R168). -/
def State.onFrameEnd (s : State) (takingFirst : Bool) : State :=
  { s with out := s.out.frameEnd (takingFirst && !s.link.inbox.isEmpty) }

/-- R147: the retransmit timer of the notice with this number has run out. -/
def NoticeQueue.timerDue (q : NoticeQueue) (number : Nat) : Bool := q.held.any (Notice.timerOut number)

/-- RETRANSMIT_TIMER_EXPIRY (R147): a notice that becomes due is an occasion for an idle transmitter (R144). -/
def State.onRetransmitTimerExpiry (s : State) (number : Nat) : State :=
  if s.out.notices.timerDue number then
    { s with out := { s.out with notices := s.out.notices.timerExpiry number }.choose }
  else s

end Sys2Proof.Machine
end

