-- ==== Sys2Proof/Machine/Receive.lean ====
section
/-! DEFINITION. The receiving side of the control link (section 10.3): RECEIVE_CHARACTER, GAP_EXPIRY, and the checks of a
complete frame, COMMAND_FRAME, CRC_ERROR, BAD_FRAME and NOTICE_ACK. -/

namespace Sys2Proof.Machine

/-- R165: the bad-frame counter increased by one. -/
def Link.countBadFrame (l : Link) : Link :=
  { l with counters := { l.counters with badFrames := saturate l.counters.badFrames } }

/-- R161: the partial frame is discarded. -/
def Link.toHunt (l : Link) : Link := { l with deframer := .hunt, gapTimer := none }

/-- R161: the deframer waits for the next character of a frame; a new gap interval of 5 ms starts. -/
def Link.await (l : Link) (d : Deframer) : Link :=
  { l with deframer := d, gapTimer := some (intervalTicks false Config.gapMs) }

/-- R160, R162: a character taken by the deframer. -/
def Link.takeCharacter (l : Link) (char : Byte) : Link :=
  match l.deframer with
  | .hunt => if char = Config.startByte then l.await .length else l
  | .length =>
    if Config.bodyMin ≤ char.toNat ∧ char.toNat ≤ Config.bodyMax then l.await (.body char.toNat [])
    else l.toHunt.countBadFrame
  | .body len got =>
    let got := got ++ [char]
    if len ≤ got.length then l.await (.crcLow got) else l.await (.body len got)
  | .crcLow got => l.await (.crcHigh got char)
  | .crcHigh got low =>
    { l.toHunt with received := l.received ++ [{ body := got, crc := char ++ low }] }

/-- R161: a character error discards a partial frame; in HUNT it is ignored. -/
def Link.characterError (l : Link) : Link :=
  if l.deframer = .hunt then l else l.toHunt.countBadFrame

/-- RECEIVE_CHARACTER (R157, R160 to R162). -/
def State.onReceiveCharacter (s : State) (char : Byte) (stopHigh : Bool) : State :=
  { s with link := if stopHigh then s.link.takeCharacter char else s.link.characterError }

/-- R161: the gap interval has run out inside a frame. -/
def Link.gapDue (l : Link) : Bool := ranOut l.gapTimer && l.deframer != .hunt

/-- GAP_EXPIRY (R161). -/
def State.onGapExpiry (s : State) : State :=
  if s.link.gapDue then
    { s with
      link :=
        { s.link.toHunt with
          counters := { s.link.counters with gapDiscards := saturate s.link.counters.gapDiscards } } }
  else s

/-! ### The checks of a complete frame (R163) -/

/-- R159: the CRC covers the length byte and the body. -/
def RxFrame.crcMatches (f : RxFrame) : Bool := crc16 (BitVec.ofNat 8 f.body.length :: f.body) == f.crc

/-- What the checks of R163 make of a complete frame. -/
inductive FrameCheck where
  | crcError
  | badFrame
  | noticeAck
  | command
deriving DecidableEq, Repr

/-- R163: the CRC first, then the class, and for NOTICE_ACK the length. -/
def RxFrame.check (f : RxFrame) : FrameCheck :=
  if !f.crcMatches then .crcError
  else if at1 f.body 0 = classCommand then .command
  else if at1 f.body 0 = classNoticeAck ∧ f.body.length = 3 then .noticeAck
  else .badFrame

/-- The inbox entry of a command frame (R164). -/
def RxFrame.command (f : RxFrame) : CommandFrame :=
  { tag := f.body.getD 1 0, kind := f.body.getD 2 0, payload := f.body.drop 3, crc := f.crc }

/-- The oldest complete frame is taken by the step whose check outcome it has (R163); for another it is not that step's. -/
def takeFrame (outcome : FrameCheck) (s : State) (f : RxFrame → State → State) : State :=
  match s.link.received with
  | [] => s
  | frame :: rest =>
    if frame.check = outcome then f frame { s with link := { s.link with received := rest } } else s

/-- R153: an accepted frame ends MUTE, which is an occasion for an idle transmitter (R144). DESIGN CHOICE (log entry 39): the
choice is made within this step, so a due notice goes before the reply to the command that ended MUTE, where the worked
example of section 9.9 has the reply placed before the choice. -/
def State.heard (s : State) : State :=
  if s.out.notices.muted then { s with out := { s.out with notices := s.out.notices.heard }.choose } else s

/-- R164: an accepted command frame is offered to the inbox. -/
def State.offerFrame (s : State) (frame : CommandFrame) : State :=
  let counters := { s.link.counters with commandFrames := saturate s.link.counters.commandFrames }
  if s.link.inbox.length < Config.inboxMax then
    { s with link := { s.link with inbox := s.link.inbox ++ [frame], counters := counters } }
  else
    let overruns := saturate counters.inboxOverruns
    { s with link := { s.link with counters := { counters with inboxOverruns := overruns } } }.claim
      (.inboxOverflow overruns)

/-- COMMAND_FRAME (R163, R164). -/
def State.onCommandFrame (s : State) : State :=
  takeFrame .command s fun frame s => s.heard.offerFrame frame.command

/-- CRC_ERROR (R163). -/
def State.onCrcError (s : State) : State :=
  takeFrame .crcError s fun _ s =>
    { s with
      link := { s.link with counters := { s.link.counters with crcErrors := saturate s.link.counters.crcErrors } } }

/-- BAD_FRAME (R163). -/
def State.onBadFrame (s : State) : State := takeFrame .badFrame s fun _ s => { s with link := s.link.countBadFrame }

/-- NOTICE_ACK (R149, R153, R163): the notice is retired first, then MUTE ends; a place freed in the window and the end of MUTE
are occasions for an idle transmitter (R144). -/
def State.onNoticeAck (s : State) : State :=
  takeFrame .noticeAck s fun frame s =>
    let counters := { s.link.counters with acknowledgements := saturate s.link.counters.acknowledgements }
    { s with
      link := { s.link with counters := counters }
      out := { s.out with notices := (s.out.notices.acknowledge (at1 frame.body 1)).heard }.choose }

end Sys2Proof.Machine
end

