-- ==== Sys2Proof/Machine/Interpreter.lean ====
section
/-! DEFINITION. The Command Interpreter (section 10.5): the taking of an inbox frame, the reply cache, the checks of R169, the
placing of a reply; UNKNOWN_KIND. -/

namespace Sys2Proof.Machine

/-- What the owner of a command answers: the state it leaves, the status and the reply fields, and the ticket whose first
evaluation comes after the reply is placed (R66). -/
structure Settled where
  state : State
  status : Status
  fields : List Byte
  evaluate : Option Nat
deriving DecidableEq, Repr

/-- The command is taken: the reply is OK with these fields. -/
def taken (s : State) (fields : List Byte) : Settled := { state := s, status := .ok, fields := fields, evaluate := none }

/-- R2, R33, R108, R127: a refused command changes nothing and its reply carries the status alone. -/
def refuse (s : State) (st : Status) : Settled := { state := s, status := st, fields := [], evaluate := none }

/-- R168: the interpreter takes the oldest inbox frame when the slot is EMPTY and no command is being executed; after RESTART
it takes no command (R176). -/
def State.interpreterFree (s : State) : Bool := !s.interp.executing && s.out.restart == .none

/-- R168: the interpreter can take a frame from the inbox. -/
def State.canTakeFrame (s : State) : Bool := s.interpreterFree && s.out.reply == .empty

/-- R168: the frame repeats the last command executed. -/
def State.isRepeat (s : State) (f : CommandFrame) : Bool :=
  match s.interp.cache with
  | none => false
  | some c => c.tag == f.tag && c.crc == f.crc

/-- R169, steps 2 to 4, for a command from the link. -/
def settleFromLink (kind : CommandKind) (settle : List Byte → State → Settled) (payload : List Byte) (s : State) :
    Settled :=
  if s.replay.system = .starting ∧ kind.admittedAtStart = false then refuse s .busyStarting
  else if kind.lengthFits payload = false then refuse s .badLength
  else settle payload s

/-- R168, R169: the frame leaves the inbox as it is taken, and its execution begins. -/
def State.takeOldest (s : State) (rest : List CommandFrame) : State :=
  { s with link := { s.link with inbox := rest }, interp := { s.interp with executing := true } }

/-- R169: the reply is placed in the slot and written into the cache, and the execution ends. -/
def State.answer (s : State) (f : CommandFrame) (st : Status) (fields : List Byte) : State :=
  let reply : Reply := { tag := f.tag, kind := f.kind, status := st, fields := fields }
  { s with
    interp := { cache := some { tag := f.tag, crc := f.crc, reply := reply }, executing := false }
    out := s.out.placeReply reply }

/-- R168, R169: the interpreter takes the oldest inbox frame when it is of this kind and no repeat, and executes it; after is
what follows once the reply is placed (R66). -/
def interpret (kind : CommandKind) (settle : List Byte → State → Settled) (after : Nat → State → State) (s : State) :
    State :=
  match s.link.inbox with
  | [] => s
  | f :: rest =>
    if s.canTakeFrame && commandKindOf f.kind.toNat == some kind && !s.isRepeat f then
      let r := settleFromLink kind settle f.payload (s.takeOldest rest)
      let s1 := r.state.answer f r.status r.fields
      match r.evaluate with
      | none => s1
      | some n => after n s1
    else s

/-- interpret for a command with nothing to follow its reply. -/
def interpretPlain (kind : CommandKind) (settle : List Byte → State → Settled) (s : State) : State :=
  interpret kind settle (fun _ s => s) s

/-- UNKNOWN_KIND (R169, step 1). -/
def State.onUnknownKind (s : State) : State :=
  match s.link.inbox with
  | [] => s
  | f :: rest =>
    if s.canTakeFrame && commandKindOf f.kind.toNat == none && !s.isRepeat f then
      (s.takeOldest rest).answer f .unknownKind []
    else s

/-- DUPLICATE_COMMAND (R168): the cached reply is placed unchanged, the duplicates counter increases, the cache stays. -/
def State.onDuplicateCommand (s : State) : State :=
  match s.link.inbox, s.interp.cache with
  | f :: rest, some c =>
    if s.canTakeFrame && s.isRepeat f then
      { s with
        link :=
          { s.link with
            inbox := rest
            counters := { s.link.counters with duplicates := saturate s.link.counters.duplicates } }
        out := s.out.placeReply c.reply }
    else s
  | [], _ => s
  | _ :: _, none => s

end Sys2Proof.Machine
end

