-- ==== Sys2Proof/Machine/Heads.lean ====
section
/-! DEFINITION. Head evaluation, the end of a head, pass ends and completions taken by the Channel Controller (sections 1.6 to
1.8, 7.3), and the evaluation of tickets by the same tests (section 4.6). -/

namespace Sys2Proof.Machine

/-! ### The outcome of an evaluation (R15, R16, R67) -/

/-- Outcomes of an evaluation (R15, R67). -/
inductive Evaluation where
  | pauses (ms : Nat)
  | fails (r : Result)
  | waits
  | candidate (at_ : Port)
deriving DecidableEq, Repr

/-- R16: the range of a transfer is wrong against a target. -/
def rangeWrong (t : Transfer) (d : Definition) : Bool :=
  decide (d.extent < t.offset + t.length)
  || (d.kind == .stream && (decide (t.offset ≠ 0) || decide (d.extent < t.length)))

/-- R15 items 2 to 7, R67: the first outcome that applies, with slot and port as they stand. -/
def evaluateTransfer (s : State) (t : Transfer) : Evaluation :=
  match (s.slot t.slot).target with
  | none => .fails .targetVacant
  | some tg =>
    if tg.standing = .fenced then .fails .targetFenced
    else if s.portState tg.defn.port = .failed then .fails .portFailed
    else if rangeWrong t tg.defn then .fails .range
    else if s.portState tg.defn.port = .disabled then .waits
    else .candidate tg.defn.port

/-- R15: the first outcome that applies to a head. -/
def evaluateDescriptor (s : State) : Descriptor → Evaluation
  | .pause ms => .pauses ms
  | .transfer t => evaluateTransfer s t

/-! ### The end of a head (R19 to R23) -/

/-- R19: the record is stored as the last result, the in-flight flag is cleared and the head status becomes NONE. -/
def State.storeRecord (s : State) (c : ChannelIx) (r : Record) : State :=
  s.setChannel c
    { s.channel c with lastResult := some r, head := .none, pauseTimer := none, arriving := none }

/-- The slot of the descriptor at a channel's position, for the notices of R22 and R23. -/
def Channel.headSlot (ch : Channel) : SlotIx := (ch.headTransfer.map (·.slot)).getD 0

/-- R22: DESC_FAILED, if wanted, with the position before it advances. -/
def State.claimDescFailed (s : State) (c : ChannelIx) (r : Record) : State :=
  let ch := s.channel c
  s.claimIf ch.wants.fail (.descFailed c ch.position r.result ch.headSlot r.attempts)

/-- R19: the failure count increases by one. -/
def State.countFailure (s : State) (c : ChannelIx) : State :=
  let ch := s.channel c
  s.setChannel c { ch with failureCount := saturate ch.failureCount }

/-- R23: the channel goes to HALTED with reason FAILURE and CHANNEL_HALTED is raised. -/
def State.haltChannel (s : State) (c : ChannelIx) (r : Record) : State :=
  let ch := s.channel c
  (s.setChannel c { ch with state := .halted, haltReason := some .failure }).claim
    (.channelHalted c ch.position r.result ch.headSlot)

/-- R20 step 3, R21: the pass count increases, PASS_DONE is raised if wanted, position and done-in-pass return to 0. -/
def State.endPass (s : State) (c : ChannelIx) : State :=
  let ch := s.channel c
  let count := saturate ch.passCount
  (s.setChannel c { ch with passCount := count, position := 0, doneInPass := 0 }).claimIf ch.wants.pass
    (.passDone c count)

/-- R20: the head at the position is the last descriptor of the ring. -/
def Channel.atLast (ch : Channel) : Bool := decide (ch.ring.length ≤ ch.position + 1)

/-- R20 steps 1 to 3: position and done-in-pass increase by one, HALF_PASS is raised if wanted, and after the last descriptor
the pass ends. -/
def State.finishHead (s : State) (c : ChannelIx) : State :=
  let ch := s.channel c
  let n := ch.ring.length
  let done := ch.doneInPass + 1
  let s1 := s.setChannel c { ch with position := ch.position + 1, doneInPass := done }
  let s2 := s1.claimIf (decide (2 ≤ n ∧ done = n / 2) && ch.wants.half) (.halfPass c ch.passCount)
  if ch.atLast then s2.endPass c else s2

/-- R21: where a pass end leads: OFF under ONCE, PACED with a pacer bound, else a pass gap that ends at the next tick. -/
def State.afterPass (s : State) (c : ChannelIx) : State :=
  let ch := s.channel c
  match ch.mode, ch.pacer with
  | .once, _ => s.setChannel c { ch with state := .off, head := .none }
  | .circular, some _ => s.setChannel c { ch with state := .paced, head := .none }
  | .circular, none => s.setChannel c { ch with state := .running, head := .none, passGap := some 1 }

/-! ### Head evaluation (R15) -/

/-- R15 item 7, R57: the head is offered to its port's arbiter; entering the set of an IDLE port is an occasion (R58), and a
head that stays a candidate there remains offered without any change. -/
def State.offerHead (s : State) (c : ChannelIx) (p : Port) : State :=
  if (s.channel c).head = .candidate p then s
  else (s.setChannel c { s.channel c with head := .candidate p }).raiseOccasionIfIdle p

/-- R15: the head at a channel's position is evaluated. A head that fails at once is taken as R19 states, and under SKIP the
next head is evaluated; fuel bounds how many heads of the pass remain. inTick: the evaluation is made while taking the
effect of a tick (R125). -/
def evaluateHead (inTick : Bool) (c : ChannelIx) : Nat → State → State
  | 0, s => s
  | fuel + 1, s =>
    match (s.channel c).headDescriptor with
    | none => s
    | some d =>
      match evaluateDescriptor s d with
      | .pauses ms =>
        s.setChannel c { s.channel c with head := .pausing, pauseTimer := some (intervalTicks inTick ms) }
      | .waits => s.setChannel c { s.channel c with head := .waiting }
      | .candidate p => s.offerHead c p
      | .fails r =>
        let rec_ : Record := { result := r, moved := 0, attempts := 0 }
        let s1 := (s.storeRecord c rec_).countFailure c
        match (s.channel c).policy with
        | .halt => s1.haltChannel c rec_
        | .skip =>
          let s2 := (s1.claimDescFailed c rec_).finishHead c
          if (s.channel c).atLast then s2.afterPass c else evaluateHead inTick c fuel s2

/-- R15: the descriptor at the position becomes the head and is evaluated. -/
def State.serveHead (s : State) (inTick : Bool) (c : ChannelIx) : State :=
  evaluateHead inTick c ((s.channel c).ring.length - (s.channel c).position) s

/-- R12: a pass begins: RUNNING, position 0, done-in-pass 0, and the head is evaluated. -/
def State.beginPass (s : State) (inTick : Bool) (c : ChannelIx) : State :=
  (s.setChannel c
    { s.channel c with state := .running, position := 0, doneInPass := 0, head := .none, passGap := none }).serveHead
    inTick c

/-- R20, R21: a finished head: the next head is evaluated, or the pass end leads on. -/
def State.finishAndGoOn (s : State) (inTick : Bool) (c : ChannelIx) : State :=
  let s1 := s.finishHead c
  if (s.channel c).atLast then s1.afterPass c else s1.serveHead inTick c

/-- R120, R121: a holding hit: the head is finished, and the channel goes to HALTED with reason WATCH_HOLD, with held pass end
set when the WATCH was the last descriptor. -/
def State.holdChannel (s : State) (c : ChannelIx) : State :=
  let s1 := s.finishHead c
  s1.setChannel c
    { s1.channel c with state := .halted, haltReason := some .watchHold, heldPassEnd := (s.channel c).atLast }

/-- R120: the head is a WATCH with its hold flag set. -/
def Channel.headHolds (ch : Channel) : Bool :=
  match ch.headTransfer with
  | none => false
  | some t =>
    match t.op with
    | .watch _ hold => hold
    | .read => false
    | .write => false

/-- R19 to R23, R120, R121: a completion record for the head of a RUNNING channel is taken. -/
def State.takeRunning (s : State) (inTick : Bool) (c : ChannelIx) (r : Record) (outcome : Option WatchOutcome) : State :=
  let ch := s.channel c
  let s1 := s.storeRecord c r
  if r.result = .done then
    if outcome = some .hit ∧ ch.headHolds = true then s1.holdChannel c else s1.finishAndGoOn inTick c
  else
    let s2 := s1.countFailure c
    match ch.policy with
    | .halt => s2.haltChannel c r
    | .skip => (s2.claimDescFailed c r).finishAndGoOn inTick c

/-- R29: a completion record for the head of a STOPPING channel is taken. -/
def State.takeStopping (s : State) (c : ChannelIx) (r : Record) : State :=
  let s1 := s.storeRecord c r
  let s2 := s1.setChannel c { s1.channel c with state := .off }
  if r.result = .done ∨ r.result = .aborted then s2 else (s2.countFailure c).claimDescFailed c r

/-! ### Tickets (R67 to R69) -/

/-- The ticket in the queue with this number (R63). -/
def State.ticket (s : State) (number : Nat) : Option Ticket := s.tickets.find? (fun t => t.number == number)

/-- The ticket with this number, changed. -/
def State.modifyTicket (s : State) (number : Nat) (f : Ticket → Ticket) : State :=
  { s with tickets := modifyFirst (fun t => t.number == number) f s.tickets }

/-- R69: the ticket is removed and XFER_DONE is raised. -/
def State.completeTicket (s : State) (number : Nat) (r : Record) : State :=
  { s with tickets := s.tickets.eraseP (fun t => t.number == number) }.claim (.xferDone number r.result r.moved)

/-- R67: a QUEUED ticket is evaluated; an IN_FLIGHT ticket is not. -/
def State.evaluateTicket (s : State) (number : Nat) : State :=
  match s.ticket number with
  | none => s
  | some t =>
    if t.state = .inFlight then s
    else
      match evaluateTransfer s t.transfer with
      | .fails r => s.completeTicket number { result := r, moved := 0, attempts := 0 }
      | .waits => s.modifyTicket number (fun t => { t with state := .waiting })
      | .candidate p =>
        if t.state = .candidate p then s
        else (s.modifyTicket number (fun t => { t with state := .candidate p })).raiseOccasionIfIdle p
      | .pauses _ => s

/-! ### Announcements (R39, R107) -/

/-- Every channel and every ticket of the queue. -/
def State.allParties (s : State) : List Party :=
  allChannels.map .channel ++ s.tickets.map (fun t => .ticket t.number)

/-- The parties of an announcement, each once: first those the step names, then the others (log entry 10). -/
def State.partiesInOrder (s : State) (order : List Party) : List Party := (order ++ s.allParties).eraseDups

/-- R14, R39, R107: one party is re-evaluated when it waits and its transfer meets sel. -/
def reevaluateParty (sel : Transfer → Bool) (s : State) : Party → State
  | .channel c =>
    let ch := s.channel c
    if ch.state = .running ∧ ch.head.waits = true ∧ (ch.headTransfer.any sel) = true then
      s.serveHead false c
    else s
  | .ticket number =>
    if (s.ticket number).any (fun t => sel t.transfer) then s.evaluateTicket number else s

/-- All parties of an announcement, one after another. -/
def State.reevaluate (s : State) (sel : Transfer → Bool) (order : List Party) : State :=
  (s.partiesInOrder order).foldl (reevaluateParty sel) s

end Sys2Proof.Machine
end

