-- ==== Sys2Proof/Machine/Channels.lean ====
section
/-! DEFINITION. The channel commands (sections 1.4, 1.5, 1.9, 1.10, 7.3) and the Channel Controller's own steps PAUSE_EXPIRY,
PASS_GAP_END and CHANNEL_COMPLETION. -/

namespace Sys2Proof.Machine

/-- R2: a channel number above 7 is refused with BAD_VALUE before any other check. -/
def withChannel (payload : List Byte) (s : State) (f : ChannelIx → Settled) : Settled :=
  if h : at1 payload 0 < 8 then f ⟨at1 payload 0, h⟩ else refuse s .badValue

/-- The reply of R11, R25, R27, R28, R122: OK with the state of the channel. DESIGN CHOICE (log entry 36): where the command has
a head evaluated in the same event and that head fails at once, the reply of CH_START and CH_RESUME carries the state the
channel is left in, not the RUNNING it passed through. -/
def takenWithState (s : State) (c : ChannelIx) : Settled := taken s (byte1 (s.channel c).state.code)

/-! ### CH_CONFIG, CH_LOAD, CH_CLEAR, CH_GET -/

/-- R7: the five settings replace the channel's; counts are set to 0 and the last result to empty. -/
def Channel.configure (ch : Channel) (priority : Priority) (mode : ChannelMode) (pacer : Option PacerIx)
    (policy : FailurePolicy) (wants : Wants) : Channel :=
  { ch with priority := priority, mode := mode, pacer := pacer, policy := policy, wants := wants, passCount := 0,
            overrunCount := 0, failureCount := 0, lastResult := none }

/-- CH_CONFIG (R7). -/
def settleChConfig (payload : List Byte) (s : State) : Settled :=
  withChannel payload s fun c =>
    if (s.channel c).state ≠ .off then refuse s .wrongState
    else
      match priorityOf (at1 payload 1), channelModeOf (at1 payload 2), pacerSettingOf (at1 payload 3),
            failurePolicyOf (at1 payload 4), wantsOf (at1 payload 5) with
      | some priority, some mode, some pacer, some policy, some wants =>
        taken (s.setChannel c ((s.channel c).configure priority mode pacer policy wants)) []
      | _, _, _, _, _ => refuse s .badValue

/-- R8 step 4: there is room for k descriptors. -/
def State.hasRoom (s : State) (c : ChannelIx) (first : Bool) (k : Nat) : Bool :=
  let len := (s.channel c).ring.length
  if first then decide (k ≤ s.poolFree + len) && decide (k ≤ Config.ringMax)
  else decide (k ≤ s.poolFree) && decide (len + k ≤ Config.ringMax)

/-- R8 step 5, R9: the ring's entries return to the pool, the ring becomes empty, position and done-in-pass are 0. -/
def State.releaseRing (s : State) (c : ChannelIx) : State :=
  let ch := s.channel c
  { s with poolFree := s.poolFree + ch.ring.length }.setChannel c
    { ch with ring := [], position := 0, doneInPass := 0 }

/-- R8 step 5: the descriptors are appended at the end of the ring. -/
def State.appendRing (s : State) (c : ChannelIx) (ds : List Descriptor) : State :=
  let ch := s.channel c
  { s with poolFree := s.poolFree - ds.length }.setChannel c { ch with ring := ch.ring ++ ds }

/-- CH_LOAD (R8). -/
def settleChLoad (payload : List Byte) (s : State) : Settled :=
  withChannel payload s fun c =>
    let k := at1 payload 2
    if (s.channel c).state ≠ .off then refuse s .wrongState
    else if ¬(1 ≤ k ∧ k ≤ Config.loadMax) ∨ payload.length ≠ 3 + 8 * k then refuse s .badLength
    else
      match flagOf (at1 payload 1), descriptorsOf k (payload.drop 3) with
      | some first, some ds =>
        if s.hasRoom c first k then
          let s1 := if first then s.releaseRing c else s
          let s2 := s1.appendRing c ds
          taken s2 (byte1 (s2.channel c).ring.length ++ byte1 s2.poolFree)
        else refuse s .noRoom
      | _, _ => refuse s .badValue

/-- CH_CLEAR (R9). -/
def settleChClear (payload : List Byte) (s : State) : Settled :=
  withChannel payload s fun c =>
    if (s.channel c).state ≠ .off then refuse s .wrongState else taken (s.releaseRing c) []

/-- R10, R196: the record as CH_GET carries it. -/
def channelBytes (s : State) (c : ChannelIx) : List Byte :=
  let ch := s.channel c
  byte1 ch.priority.code ++ byte1 ch.mode.code ++ byte1 (pacerSettingCode ch.pacer) ++ byte1 ch.policy.code
  ++ byte1 ch.wants.code ++ byte1 ch.state.code ++ byte1 ch.ring.length ++ byte1 ch.position ++ byte1 ch.doneInPass
  ++ byte1 ch.head.code ++ byte1 (flagCode ch.head.inFlight + 2 * flagCode ch.heldPassEnd)
  ++ byte1 (haltReasonCode ch.haltReason) ++ bytes2 ch.passCount ++ bytes2 ch.overrunCount ++ bytes2 ch.failureCount
  ++ recordBytes ch.lastResult ++ byte1 s.poolFree

/-- CH_GET (R10): with an index when the payload has two bytes (R195). -/
def settleChGet (payload : List Byte) (s : State) : Settled :=
  withChannel payload s fun c =>
    if payload.length < 2 then taken s (channelBytes s c)
    else
      match (s.channel c).ring[at1 payload 1]? with
      | none => refuse s .badValue
      | some d => taken s (channelBytes s c ++ d.bytes)

/-! ### CH_START, CH_STOP, CH_ABORT, CH_RESUME -/

/-- CH_START (R11). -/
def settleChStart (payload : List Byte) (s : State) : Settled :=
  withChannel payload s fun c =>
    let ch := s.channel c
    if ch.state ≠ .off ∨ ch.ring = [] then refuse s .wrongState
    else
      match ch.pacer with
      | none => takenWithState (s.beginPass false c) c
      | some _ =>
        takenWithState
          (s.setChannel c { ch with state := .paced, position := 0, doneInPass := 0, head := .none }) c

/-- R27: the channel goes to OFF: its head is withdrawn, its pause timer or pass gap cancelled, halt reason and held pass end
cleared; position and done-in-pass stay. -/
def Channel.goOff (ch : Channel) : Channel :=
  { ch with state := .off, head := .none, haltReason := none, heldPassEnd := false, pauseTimer := none, passGap := none }

/-- R27: what CH_STOP does in each state. -/
def State.stopChannel (s : State) (c : ChannelIx) : State :=
  let ch := s.channel c
  match ch.state with
  | .off => s
  | .stopping => s
  | .paced => s.setChannel c ch.goOff
  | .halted => s.setChannel c ch.goOff
  | .running =>
    match ch.head with
    | .onPort _ => s.setChannel c { ch with state := .stopping }
    | .none => s.setChannel c ch.goOff
    | .waiting => s.setChannel c ch.goOff
    | .candidate _ => s.setChannel c ch.goOff
    | .pausing => s.setChannel c ch.goOff

/-- CH_STOP (R27). -/
def settleChStop (payload : List Byte) (s : State) : Settled :=
  withChannel payload s fun c => takenWithState (s.stopChannel c) c

/-- An abort request is sent to a port's engine (R92); the engine takes it in a step of its own. -/
def State.sendAbort (s : State) (p : Port) (o : Owner) : State :=
  s.setEngine p { s.engine p with abortRequests := (s.engine p).abortRequests ++ [o] }

/-- R28: CH_STOP's effect, and with the head ON_PORT an abort request to the engine running it. -/
def State.abortChannel (s : State) (c : ChannelIx) : State :=
  let ch := s.channel c
  match ch.head with
  | .onPort p => (s.stopChannel c).sendAbort p (.channel c)
  | .none => s.stopChannel c
  | .waiting => s.stopChannel c
  | .candidate _ => s.stopChannel c
  | .pausing => s.stopChannel c

/-- CH_ABORT (R28). -/
def settleChAbort (payload : List Byte) (s : State) : Settled :=
  withChannel payload s fun c => takenWithState (s.abortChannel c) c

/-- R24: a retry of the failed descriptor. -/
def State.retryHead (s : State) (c : ChannelIx) : State :=
  (s.setChannel c { s.channel c with state := .running, haltReason := none }).serveHead false c

/-- R25: the failed descriptor is finished as skipped. -/
def State.skipHead (s : State) (c : ChannelIx) : State :=
  (s.setChannel c { s.channel c with state := .running, haltReason := none }).finishAndGoOn false c

/-- R122: a watch hold is released, according to the held pass end flag. -/
def State.releaseHold (s : State) (c : ChannelIx) : State :=
  let ch := s.channel c
  let s1 := s.setChannel c { ch with state := .running, haltReason := none, heldPassEnd := false }
  if ch.heldPassEnd then s1.afterPass c else s1.serveHead false c

/-- CH_RESUME (R24, R25, R26, R122). R191: the flag check follows the number check. -/
def settleChResume (payload : List Byte) (s : State) : Settled :=
  withChannel payload s fun c =>
    match flagOf (at1 payload 1) with
    | none => refuse s .badValue
    | some skip =>
      let ch := s.channel c
      if ch.state ≠ .halted then refuse s .wrongState
      else if ch.haltReason = some .watchHold then takenWithState (s.releaseHold c) c
      else if skip then takenWithState (s.skipHead c) c
      else takenWithState (s.retryHead c) c

/-! ### The Channel Controller's own steps -/

/-- R18: the pause timer of a PAUSING head has run out. -/
def Channel.pauseDue (ch : Channel) : Bool := ch.state == .running && ch.head == .pausing && ranOut ch.pauseTimer

/-- PAUSE_EXPIRY (R18): the head completes with DONE. -/
def State.onPauseExpiry (s : State) (c : ChannelIx) : State :=
  if (s.channel c).pauseDue then s.takeRunning true c { result := .done, moved := 0, attempts := 0 } none else s

/-- R21: the first tick after the pass end has come. -/
def Channel.passGapDue (ch : Channel) : Bool := ch.state == .running && ch.head == .none && ranOut ch.passGap

/-- PASS_GAP_END (R21): a new pass begins. -/
def State.onPassGapEnd (s : State) (c : ChannelIx) : State :=
  if (s.channel c).passGapDue then s.beginPass true c else s

/-- CHANNEL_COMPLETION (R19, R29): the record handed on to the channel is taken. -/
def State.onChannelCompletion (s : State) (c : ChannelIx) : State :=
  match (s.channel c).arriving with
  | none => s
  | some arrival =>
    match (s.channel c).state with
    | .running => s.takeRunning false c arrival.record arrival.outcome
    | .stopping => s.takeStopping c arrival.record
    | .off => s
    | .paced => s
    | .halted => s

end Sys2Proof.Machine
end

