-- ==== Sys2Proof/Machine/Targets.lean ====
section
/-! DEFINITION. The Target Table (chapter 2): its commands, TARGET_ACCOUNTING and SLOT_ANNOUNCEMENT. -/

namespace Sys2Proof.Machine

/-- R33: a slot number above 31 is refused with BAD_VALUE before any other check. -/
def withSlot (payload : List Byte) (s : State) (f : SlotIx → Settled) : Settled :=
  if h : at1 payload 0 < 32 then f ⟨at1 payload 0, h⟩ else refuse s .badValue

/-- R34 step 3: a slot that is not VACANT has this port and bus address. -/
def Slot.holds (sl : Slot) (d : Definition) : Bool :=
  sl.target.any (fun t => t.defn.port == d.port && t.defn.address == d.address)

/-- R34 step 3: another slot has the definition's port and bus address. -/
def State.duplicateTarget (s : State) (n : SlotIx) (d : Definition) : Bool :=
  (List.finRange 32).any (fun m => m != n && (s.slot m).holds d)

/-- TGT_SET (R34, R194). -/
def settleTgtSet (payload : List Byte) (s : State) : Settled :=
  withSlot payload s fun n =>
    match definitionOf (payload.drop 1) with
    | none => refuse s .badValue
    | some d =>
      if (s.slot n).inFlight then refuse s .busy
      else if s.duplicateTarget n d then refuse s .duplicate
      else
        taken
          ((s.setSlot n
            { target := some { defn := d, standing := .online, count := 0 }, inFlight := false }).announceSlot n) []

/-- R43, R194: the slot as TGT_GET carries it; a VACANT slot's definition and count are 0. -/
def slotBytes (sl : Slot) : List Byte :=
  match sl.target with
  | none => byte1 sl.state.code ++ List.replicate 14 0 ++ byte1 0 ++ byte1 (flagCode sl.inFlight)
  | some t => byte1 sl.state.code ++ t.defn.bytes ++ byte1 t.count ++ byte1 (flagCode sl.inFlight)

/-- TGT_GET (R43). -/
def settleTgtGet (payload : List Byte) (s : State) : Settled :=
  withSlot payload s fun n => taken s (slotBytes (s.slot n))

/-- TGT_REMOVE (R40). -/
def settleTgtRemove (payload : List Byte) (s : State) : Settled :=
  withSlot payload s fun n =>
    let sl := s.slot n
    if sl.inFlight then refuse s .busy
    else
      match sl.target with
      | none => taken s []
      | some _ => taken ((s.setSlot n { sl with target := none }).announceSlot n) []

/-- TGT_FENCE (R41). -/
def settleTgtFence (payload : List Byte) (s : State) : Settled :=
  withSlot payload s fun n =>
    let sl := s.slot n
    match sl.target with
    | none => refuse s .noTarget
    | some t =>
      if t.standing = .fenced then taken s []
      else taken ((s.setSlot n { sl with target := some { t with standing := .fenced } }).announceSlot n) []

/-- TGT_UNFENCE (R42). -/
def settleTgtUnfence (payload : List Byte) (s : State) : Settled :=
  withSlot payload s fun n =>
    let sl := s.slot n
    match sl.target with
    | none => refuse s .noTarget
    | some t =>
      if t.standing = .online then taken s []
      else
        taken ((s.setSlot n { sl with target := some { t with standing := .online, count := 0 } }).announceSlot n) []

/-! ### Failure accounting (R37, R38) -/

/-- R37: DONE sets the count to 0 and makes a SUSPECT slot ONLINE; a FENCED slot stays FENCED. -/
def Target.succeed (t : Target) : Target :=
  match t.standing with
  | .fenced => { t with count := 0 }
  | .online => { t with count := 0 }
  | .suspect => { t with count := 0, standing := .online }

/-- R38: a counted failure reaches the fence threshold on a slot that is not FENCED. -/
def Target.fencesNext (t : Target) : Bool :=
  t.standing != .fenced && decide (t.defn.fenceThreshold ≤ t.count + 1)

/-- R38: a counted failure. -/
def Target.fail (t : Target) : Target :=
  match t.standing with
  | .fenced => { t with count := min (t.count + 1) (max t.count t.defn.fenceThreshold) }
  | .online | .suspect =>
    { t with count := t.count + 1, standing := if t.defn.fenceThreshold ≤ t.count + 1 then .fenced else .suspect }

/-- R37: the result accounted to a target. -/
def Target.account (t : Target) (r : Result) : Target :=
  if r = .done then t.succeed else if r.countsAgainstTarget then t.fail else t

/-- R37: the slot's mark is cleared and the result accounted; R38: a fence by threshold raises TARGET_FENCED and announces
the slot. -/
def State.accountSlot (s : State) (n : SlotIx) (r : Result) : State :=
  let sl := s.slot n
  let s1 := s.setSlot n { target := sl.target.map (·.account r), inFlight := false }
  if r.countsAgainstTarget ∧ sl.target.any Target.fencesNext = true then
    (s1.claim (.targetFenced n r)).announceSlot n
  else s1

/-- R37, R62: the record is handed, unchanged, to the channel or ticket that owns the transaction. -/
def State.deliver (s : State) (m : MadeRecord) : State :=
  match m.owner with
  | .channel c => s.setChannel c { s.channel c with arriving := some { record := m.record, outcome := m.outcome } }
  | .ticket n => s.modifyTicket n (fun t => { t with arrived := some m.record })
  | .replay => s

/-- TARGET_ACCOUNTING (R37, R38): the Target Table takes the record that the port's engine has made. -/
def State.onTargetAccounting (s : State) (p : Port) : State :=
  match (s.engine p).record with
  | none => s
  | some m => ((s.setEngine p { s.engine p with record := none }).accountSlot m.slot m.record.result).deliver m

/-! ### SLOT_ANNOUNCEMENT (R39) -/

/-- SLOT_ANNOUNCEMENT (R39): the heads and tickets that name the slot and wait are re-evaluated. -/
def State.onSlotAnnouncement (s : State) (n : SlotIx) (order : List Party) : State :=
  if s.slotNews.contains n then { s with slotNews := s.slotNews.erase n }.reevaluate (fun t => t.slot == n) order else s

end Sys2Proof.Machine
end

