-- ==== Sys2Proof/Machine/Staging.lean ====
section
/-! DEFINITION. Host access to staging memory (section 3.5): MEM_WRITE and MEM_READ. -/

namespace Sys2Proof.Machine

/-- R53 step 1: the byte count is 1 to 240 and the payload holds exactly that many data bytes. -/
def writeCountFits (payload : List Byte) : Bool :=
  decide (1 ≤ at1 payload 2 ∧ at1 payload 2 ≤ Config.hostAccessMax ∧ payload.length = 3 + at1 payload 2)

/-- R53 step 2, R54 step 2: the range leaves the 8192 bytes. -/
def hostRangeWrong (offset count : Nat) : Bool :=
  decide (Config.stagingBytes ≤ offset ∨ Config.stagingBytes < offset + count)

/-- R53 step 3: the range overlaps an entry of the busy-range list, of either direction. -/
def State.writeBlocked (s : State) (offset count : Nat) : Bool :=
  s.busyList.any (fun r => r.overlaps { first := offset, length := count, direction := .writes })

/-- R54 step 3: the range overlaps an entry of direction WRITES. -/
def State.readBlocked (s : State) (offset count : Nat) : Bool :=
  s.busyList.any (fun r => r.direction == .writes && r.overlaps { first := offset, length := count, direction := .reads })

/-- MEM_WRITE (R53). -/
def settleMemWrite (payload : List Byte) (s : State) : Settled :=
  let offset := at2 payload 0
  let count := at1 payload 2
  if writeCountFits payload = false then refuse s .badLength
  else if hostRangeWrong offset count then refuse s .badValue
  else if s.writeBlocked offset count then refuse s .busyRange
  else taken { s with staging := s.staging.writeBytes offset (payload.drop 3) } []

/-- MEM_READ (R54). -/
def settleMemRead (payload : List Byte) (s : State) : Settled :=
  let offset := at2 payload 0
  let length := at1 payload 2
  if ¬(1 ≤ length ∧ length ≤ Config.hostAccessMax) then refuse s .badLength
  else if hostRangeWrong offset length then refuse s .badValue
  else if s.readBlocked offset length then refuse s .busyRange
  else taken s (s.staging.readBytes offset length)

end Sys2Proof.Machine
end

