-- ==== Sys2Proof/Machine/Direct.lean ====
section
/-! DEFINITION. The Direct Queue (sections 4.4 to 4.8): XFER, XFER_CANCEL and TICKET_COMPLETION. -/

namespace Sys2Proof.Machine

/-- R65 step 2: the descriptor of an XFER; a PAUSE and a WATCH with its hold flag set are refused. -/
def xferTransferOf (payload : List Byte) : Option Transfer :=
  match descriptorOf payload with
  | some (.transfer t) =>
    match t.op with
    | .read => some t
    | .write => some t
    | .watch _ hold => if hold then none else some t
  | some (.pause _) => none
  | none => none

/-- R64: the number that the next accepted ticket takes. -/
def State.nextTicketNumber (s : State) : Nat := freshNumber (s.tickets.map (·.number)) s.nextTicket

/-- R66: a ticket is created at the end of the queue. Its standing is WAITING until its first evaluation, in the same event,
gives it another. -/
def State.createTicket (s : State) (t : Transfer) : State :=
  { s with
    tickets := s.tickets ++ [{ number := s.nextTicketNumber, transfer := t, state := .waiting, arrived := none }]
    nextTicket := nextNumberAfter s.nextTicketNumber }

/-- XFER (R65, R66). -/
def settleXfer (payload : List Byte) (s : State) : Settled :=
  if payload.length ≠ 8 then refuse s .badLength
  else
    match xferTransferOf payload with
    | none => refuse s .badValue
    | some t =>
      if Config.ticketMax ≤ s.tickets.length then refuse s .noRoom
      else
        match (s.slot t.slot).target with
        | none => refuse s .noTarget
        | some tg =>
          if rangeWrong t tg.defn then refuse s .range
          else
            { state := s.createTicket t, status := .ok, fields := byte1 s.nextTicketNumber,
              evaluate := some s.nextTicketNumber }

/-- R70: a QUEUED ticket is removed; no XFER_DONE is raised. -/
def State.dropTicket (s : State) (number : Nat) : State :=
  { s with tickets := s.tickets.eraseP (fun t => t.number == number) }

/-- XFER_CANCEL (R70). -/
def settleXferCancel (payload : List Byte) (s : State) : Settled :=
  match s.ticket (at1 payload 0) with
  | none => refuse s .badValue
  | some t => if t.state = .inFlight then refuse s .busy else taken (s.dropTicket (at1 payload 0)) []

/-- XFER (R65 to R67): the reply is placed before the new ticket is evaluated. -/
def State.onXfer (s : State) : State := interpret .xfer settleXfer (fun number s => s.evaluateTicket number) s

/-- TICKET_COMPLETION (R69): the record handed on to the ticket is taken. -/
def State.onTicketCompletion (s : State) (number : Nat) : State :=
  match (s.ticket number).bind (·.arrived) with
  | none => s
  | some r => s.completeTicket number r

end Sys2Proof.Machine
end

