-- ==== Sys2Proof/Machine/Pacers.lean ====
section
/-! DEFINITION. The Timebase and the Pacer Unit (chapter 8): TIMEBASE_TICK, PACER_EXPIRY and the pacer commands. -/

namespace Sys2Proof.Machine

/-- R127: a pacer number above 3 is refused with BAD_VALUE before any other check. -/
def withPacer (payload : List Byte) (s : State) (f : PacerIx → Settled) : Settled :=
  if h : at1 payload 0 < 4 then f ⟨at1 payload 0, h⟩ else refuse s .badValue

/-- PC_SET (R128). -/
def settlePcSet (payload : List Byte) (s : State) : Settled :=
  withPacer payload s fun n =>
    let pc := s.pacer n
    if pc.running then refuse s .wrongState
    else
      match pacerModeOf (at1 payload 3) with
      | none => refuse s .badValue
      | some mode =>
        if at2 payload 1 = 0 then refuse s .badValue
        else taken (s.setPacer n { pc with period := at2 payload 1, mode := mode }) []

/-- R129: the interval starts afresh, one tick more than the period (R126). -/
def Pacer.start (pc : Pacer) : Pacer :=
  { pc with running := true, remaining := intervalTicks false pc.period, expiring := false }

/-- PC_START (R129). -/
def settlePcStart (payload : List Byte) (s : State) : Settled :=
  withPacer payload s fun n => taken (s.setPacer n (s.pacer n).start) []

/-- R130, R132: STOPPED, with time remaining 0. -/
def Pacer.stop (pc : Pacer) : Pacer := { pc with running := false, remaining := 0, expiring := false }

/-- PC_STOP (R130). -/
def settlePcStop (payload : List Byte) (s : State) : Settled :=
  withPacer payload s fun n =>
    if (s.pacer n).running then taken (s.setPacer n (s.pacer n).stop) [] else taken s []

/-- R195: bit c is set when channel c names the pacer. -/
def State.boundChannels (s : State) (n : PacerIx) : Nat :=
  allChannels.foldl (fun acc c => acc + (if (s.channel c).pacer = some n then 2 ^ c.val else 0)) 0

/-- R131, R195: the pacer as PC_GET carries it. -/
def pacerBytes (s : State) (n : PacerIx) : List Byte :=
  let pc := s.pacer n
  byte1 (flagCode pc.running) ++ bytes2 pc.period ++ byte1 pc.mode.code ++ bytes3 pc.remaining ++ bytes2 pc.expiryCount
  ++ byte1 (s.boundChannels n)

/-- PC_GET (R131). -/
def settlePcGet (payload : List Byte) (s : State) : Settled :=
  withPacer payload s fun n => taken s (pacerBytes s n)

/-! ### The tick (R125, R132) -/

/-- One tick for every held notice (R146). -/
def NoticeQueue.tick (q : NoticeQueue) : NoticeQueue := { q with held := q.held.map Notice.tick }

/-- R78: the clock line of a port reads low at the tick though its engine has released it, for each port. -/
def heldLow (stretched : List Port) : PerPort Bool :=
  { a := stretched.contains .a, b := stretched.contains .b, c := stretched.contains .c, d := stretched.contains .d }

/-- TIMEBASE_TICK (R125, R132): every interval of the part counts one tick. What a tick ends is due: it has its effect in the
step named for its expiry, before any other event is taken (log entry 8). -/
def State.onTimebaseTick (s : State) (stretched : List Port) : State :=
  { s with
    link := { s.link with gapTimer := tickTimer s.link.gapTimer }
    out := { s.out with notices := s.out.notices.tick }
    channels := s.channels.map Channel.tick
    engines := s.engines.zipWith Engine.tick (heldLow stretched)
    pacers := s.pacers.map Pacer.tick }

/-! ### The expiry (R132, R133) -/

/-- R132: the expiry count increases; REPEAT reloads, SINGLE stops. -/
def Pacer.expire (pc : Pacer) : Pacer :=
  let pc1 := { pc with expiryCount := saturate pc.expiryCount, expiring := false }
  match pc.mode with
  | .repeat_ => { pc1 with remaining := intervalTicks true pc.period }
  | .single => pc1.stop

/-- R133: an overrun is counted and raised if wanted; nothing else of the channel changes. -/
def State.overrun (s : State) (c : ChannelIx) : State :=
  let ch := s.channel c
  let count := saturate ch.overrunCount
  (s.setChannel c { ch with overrunCount := count }).claimIf ch.wants.overrun (.paceOverrun c count)

/-- R133: what an expiry does to a bound channel, by its state. A pass begins while taking the effect of a tick (R125). -/
def State.expiryAt (s : State) (c : ChannelIx) : State :=
  match (s.channel c).state with
  | .off => s
  | .paced => s.beginPass true c
  | .running => s.overrun c
  | .halted => s.overrun c
  | .stopping => s.overrun c

/-- R133: one channel in its turn, when its pacer setting names the pacer. -/
def expiryVisits (n : PacerIx) (s : State) (c : ChannelIx) : State :=
  if (s.channel c).pacer = some n then s.expiryAt c else s

/-- R132: a tick has brought the time remaining of a RUNNING pacer to 0. -/
def Pacer.due (pc : Pacer) : Bool := pc.running && pc.expiring

/-- PACER_EXPIRY (R132, R133). -/
def State.onPacerExpiry (s : State) (n : PacerIx) : State :=
  if (s.pacer n).due then allChannels.foldl (expiryVisits n) (s.setPacer n (s.pacer n).expire) else s

end Sys2Proof.Machine
end

