-- ==== Sys2Proof/Machine/Engine.lean ====
section
/-! DEFINITION. The Port Engine's bus procedure (chapter 5) and the WATCH comparison (section 7.1): what a transaction sends,
how each bus event moves it on, and how it ends (R97). -/

namespace Sys2Proof.Machine

/-! ### What a transaction is (R77, R82 to R86) -/

/-- R85: a WRITE to a MEMORY target runs in segments. -/
def Transaction.segmented (t : Transaction) : Bool := t.defn.kind == .memory && t.transfer.op == .write

/-- The operation receives bytes: READ and WATCH. -/
def Transaction.receives (t : Transaction) : Bool := t.transfer.op != .write

/-- R83: the first address byte has direction read, for a READ or WATCH without offset bytes. -/
def Transaction.opensWithRead (t : Transaction) : Bool := t.receives && t.defn.offsetWidth == 0

/-- R85: length of the segment that begins after confirmed bytes of a memory write. -/
def Transaction.segmentLength (t : Transaction) (confirmed : Nat) : Nat :=
  min (t.transfer.length - confirmed) (t.defn.pageSize - (t.transfer.offset + confirmed) % t.defn.pageSize)

/-- R85: the segment that begins after confirmed bytes, at this place in the write. -/
def Transaction.segmentAt (t : Transaction) (confirmed place : Nat) : Segment :=
  { first := t.transfer.offset + confirmed, length := t.segmentLength confirmed, place := place }

/-- R77: the offset sent: the segment's first offset in a memory write, else the target offset. -/
def Engine.offsetSent (e : Engine) (t : Transaction) : Nat :=
  match e.segment with
  | some sg => if t.segmented then sg.first else t.transfer.offset
  | none => t.transfer.offset

/-- R84, R86: data bytes of the transfer in progress of a WRITE. -/
def Engine.dataOutLength (e : Engine) (t : Transaction) : Nat :=
  match e.segment with
  | some sg => if t.segmented then sg.length else t.transfer.length
  | none => t.transfer.length

/-- R47, R85: the staging position of data byte k of the transfer in progress of a WRITE. -/
def Engine.sourcePosition (e : Engine) (t : Transaction) (k : Nat) : Nat :=
  if t.segmented then t.transfer.position + e.confirmed + k else t.transfer.position + k

/-- R77: an address byte. -/
def addressByte (address : Nat) (read : Bool) : Byte := BitVec.ofNat 8 (2 * address + (if read then 1 else 0))

/-- R77: offset byte k of a width: the high byte first. -/
def offsetByte (width offset k : Nat) : Byte :=
  if width = 2 ∧ k = 0 then BitVec.ofNat 8 (offset / 256) else BitVec.ofNat 8 offset

/-- R76, R77, R47: the byte that a port's engine sends at this moment; none while it sends none. -/
def State.byteSent (s : State) (p : Port) : Option Byte :=
  let e := s.engine p
  match e.transaction with
  | none => none
  | some t =>
    match e.activity with
    | .address read _ => some (addressByte t.defn.address read)
    | .poll => some (addressByte t.defn.address false)
    | .offset k => some (offsetByte t.defn.offsetWidth (e.offsetSent t) k)
    | .dataOut k => some (s.staging.read (e.sourcePosition t k))
    | .none | .retryGap | .formStart | .beforeSegment | .formRestart | .dataIn _ | .dataInExtra | .formStop _
    | .betweenPolls | .pollStart | .stretchClockWait | .stretchStop => none

/-- R82, R93: the acknowledge bit that a port's engine drives after the byte it receives: true is ACK. It NAKs the last byte
and the one more byte of an aborted read. -/
def State.ackDriven (s : State) (p : Port) : Option Bool :=
  let e := s.engine p
  match e.transaction with
  | none => none
  | some t =>
    match e.activity with
    | .dataIn k => some (decide (k + 1 < t.transfer.length))
    | .dataInExtra => some false
    | .none | .retryGap | .formStart | .beforeSegment | .formRestart | .address _ _ | .offset _ | .dataOut _
    | .formStop _ | .betweenPolls | .pollStart | .poll | .stretchClockWait | .stretchStop => none

/-! ### Moving on -/

/-- The next step of the port after a completion (R96). -/
inductive Course where
  | idle | recovering | failed
deriving DecidableEq, Repr

/-- What a bus event makes of the engine: the procedure goes on, or the transaction ends. -/
inductive Progress where
  | goesOn (e : Engine)
  | ends (e : Engine) (r : Result) (course : Course)
deriving DecidableEq, Repr

/-- The engine turns to an activity: what it waited for is over, and so is a stretch (R78). -/
def Engine.turnTo (e : Engine) (a : Activity) : Engine :=
  { e with activity := a, waitTimer := none, stretchTimer := none }

/-- R82 to R86, step 1: an attempt begins; the attempts count increases. -/
def Engine.beginAttempt (e : Engine) : Engine :=
  { e with attempts := e.attempts + 1, moved := 0 }.turnTo .formStart

/-- R81: the first attempt begins, with the first segment of a memory write. -/
def Engine.beginFirstAttempt (e : Engine) (t : Transaction) : Engine :=
  { e with segment := if t.segmented then some (t.segmentAt 0 1) else none }.beginAttempt

/-- R82, R84, R86, R93: the engine closes the transfer after a NAK; after an abort request the result is ABORTED. -/
def Engine.closeOnNak (e : Engine) (r : Result) : Engine :=
  e.turnTo (.formStop (if e.abortRequested then .aborted else .nak r))

/-- R93: after an abort request the engine closes the bus, else it turns to the next step. -/
def Engine.unlessAborted (e : Engine) (next : Activity) : Engine :=
  e.turnTo (if e.abortRequested then .formStop .aborted else next)

/-- R82 to R86: what follows the address byte once it is acknowledged. -/
def Transaction.afterAddress (t : Transaction) (read : Bool) : Activity :=
  if read then .dataIn 0 else if 0 < t.defn.offsetWidth then .offset 0 else .dataOut 0

/-- R82, R84, R86: what follows offset byte k once it is acknowledged. -/
def Transaction.afterOffset (t : Transaction) (k : Nat) : Activity :=
  if k + 1 < t.defn.offsetWidth then .offset (k + 1) else if t.receives then .formRestart else .dataOut 0

/-- R84, R86: what follows data byte k of n once it is acknowledged. -/
def Transaction.afterDataOut (t : Transaction) (k n : Nat) : Activity :=
  if k + 1 < n then .dataOut (k + 1) else .formStop (if t.segmented then .segment else .final)

/-- R82, R83, R93: what follows data byte k received. -/
def Engine.afterDataIn (e : Engine) (t : Transaction) (k : Nat) : Activity :=
  if t.transfer.length ≤ k + 1 then .formStop .final else if e.abortRequested then .dataInExtra else .dataIn (k + 1)

/-- R114: the scratch area with the byte received; a READ leaves it. -/
def Engine.gather (e : Engine) (t : Transaction) (k : Nat) (data : Byte) : Engine :=
  match t.transfer.op with
  | .watch _ _ => { e with scratch := e.scratch.set k data }
  | .read => e
  | .write => e

/-- R76, R82 to R86, R93: a byte with its acknowledge bit has been clocked. -/
def Engine.byteClocked (e : Engine) (t : Transaction) (data : Byte) (ack : Bool) : Engine :=
  match e.activity with
  | .address read again =>
    if ack then e.unlessAborted (t.afterAddress read)
    else e.closeOnNak (if again then .dataNak else .addrNak)
  | .offset k => if ack then e.unlessAborted (t.afterOffset k) else e.closeOnNak .offsetNak
  | .dataOut k =>
    if ack then { e with moved := e.moved + 1 }.unlessAborted (t.afterDataOut k (e.dataOutLength t))
    else e.closeOnNak .dataNak
  | .dataIn k => ({ e with moved := e.moved + 1 }.gather t k data).turnTo (e.afterDataIn t k)
  | .dataInExtra => e.turnTo (.formStop .aborted)
  | .none | .retryGap | .formStart | .beforeSegment | .formRestart | .formStop _ | .betweenPolls | .pollStart | .poll
  | .stretchClockWait | .stretchStop => e

/-- R89: a failed transfer is retried while the attempts count is at most the retry setting: the retry gap starts. -/
def Engine.retryOrEnd (e : Engine) (t : Transaction) (r : Result) : Progress :=
  if e.attempts ≤ t.defn.retries then
    .goesOn { e.turnTo .retryGap with waitTimer := some (intervalTicks false Config.retryGapMs) }
  else .ends e r .idle

/-- R86, R87: the STOP of a segment has been formed: the cycle limit starts. -/
def Engine.beginPolling (e : Engine) (t : Transaction) : Engine :=
  { e with cycleTimer := some (intervalTicks false t.defn.cycleLimit), cycleExpired := false }.turnTo .betweenPolls

/-- R82 to R89, R93: the STOP that closes a transfer has been formed. -/
def Engine.stopFormed (e : Engine) (t : Transaction) : Closing → Progress
  | .final => .ends e .done .idle
  | .segment => if e.abortRequested then .ends e .aborted .idle else .goesOn (e.beginPolling t)
  | .nak r => if e.abortRequested then .ends e .aborted .idle else e.retryOrEnd t r
  | .aborted => .ends e .aborted .idle

/-- R76, R82 to R89, R78: a START, repeated START or STOP has been formed. -/
def Engine.conditionFormed (e : Engine) (t : Transaction) (lines : Lines) : Progress :=
  match e.activity with
  | .formStart => .goesOn (e.unlessAborted (.address t.opensWithRead false))
  | .beforeSegment => .goesOn (e.unlessAborted (.address false false))
  | .formRestart => .goesOn (e.unlessAborted (.address true true))
  | .betweenPolls | .pollStart => .goesOn (e.turnTo .poll)
  | .formStop c => e.stopFormed t c
  | .stretchStop => .ends e .stretchTimeout (if lines.bothHigh then .idle else .recovering)
  | .none | .retryGap | .address _ _ | .offset _ | .dataOut _ | .dataIn _ | .dataInExtra | .poll | .stretchClockWait =>
    .goesOn e

/-- R87: the segment is confirmed: its length is added and the cycle limit is cancelled. -/
def Engine.confirmSegment (e : Engine) : Engine :=
  { e with confirmed := e.confirmed + (e.segment.map Segment.length).getD 0, cycleTimer := none, cycleExpired := false }

/-- R85: the segment after the one confirmed. -/
def Engine.nextSegment (e : Engine) (t : Transaction) : Engine :=
  { e with segment := some (t.segmentAt e.confirmed ((e.segment.map Segment.place).getD 0 + 1)) }.turnTo .beforeSegment

/-- R87, R93: a poll has been carried to its end and answered. -/
def Engine.pollAnswered (e : Engine) (t : Transaction) (ack : Bool) : Progress :=
  if ack then
    let e1 := e.confirmSegment
    if t.transfer.length ≤ e1.confirmed then .ends e1 .done .idle
    else if e.abortRequested then .ends e1 .aborted .idle
    else .goesOn (e1.nextSegment t)
  else if e.abortRequested then .ends e .aborted .idle
  else if e.cycleExpired then .ends e .cycleTimeout .idle
  else .goesOn (e.turnTo .betweenPolls)

/-- R87: the cycle limit has run out: between two polls the write ends; a poll begun before, its START included, is carried to
its end, and no further poll will begin. -/
def Engine.cycleLimitOut (e : Engine) : Progress :=
  if e.activity = .betweenPolls then .ends e .cycleTimeout .idle
  else .goesOn { e with cycleTimer := none, cycleExpired := true }

/-- R92, R93: an abort request is taken: with the bus closed the transaction ends at once. -/
def Engine.takeAbort (e : Engine) : Progress :=
  if e.activity.busClosed then .ends { e with abortRequested := true } .aborted .idle
  else .goesOn { e with abortRequested := true }

/-- The engine as the step finds it that says whether the START that follows has been begun (log entry 17). -/
def Engine.found (e : Engine) (startBegun : Bool) : Engine := if startBegun then e.startBegun else e

/-- R46, R48, R84, R88, R94: the bytes moved of a transaction that ends with a result. -/
def Engine.bytesMoved (e : Engine) (t : Transaction) (r : Result) : Nat :=
  match t.transfer.op with
  | .watch _ _ => if r = .done then t.transfer.length else 0
  | .read => e.moved
  | .write => if t.segmented then e.confirmed else e.moved

/-! ### The WATCH comparison (R48, R115, R116) -/

/-- R115: bytes masked, byte by byte. -/
def masked (bytes mask : List Byte) : List Byte := List.zipWith (· &&& ·) bytes mask

/-- R48: the parts of a WATCH block. -/
def referencePart (m : Memory) (t : Transfer) : List Byte := m.readBytes t.position t.length
def maskPart (m : Memory) (t : Transfer) : List Byte := m.readBytes (t.position + t.length) t.length
def lastReadPart (m : Memory) (t : Transfer) : List Byte := m.readBytes (t.position + 2 * t.length) t.length

/-- R115: whether the comparison of a reading hits. -/
def comparisonHits (m : Memory) (t : Transfer) (mode : WatchMode) (reading : List Byte) : Bool :=
  let mask := maskPart m t
  match mode with
  | .onChange => masked reading mask != masked (lastReadPart m t) mask
  | .onMatch => masked reading mask == masked (referencePart m t) mask
  | .onDiffer => masked reading mask != masked (referencePart m t) mask

/-- R114: the reading of a WATCH. -/
def Engine.reading (e : Engine) (t : Transaction) : List Byte := e.scratch.take t.transfer.length

/-- R118: WATCH_HIT for a hit. -/
def watchHitNotice (t : Transaction) (mode : WatchMode) (reading : List Byte) : NoticeKind :=
  match t.owner with
  | .channel c => .watchHit false c.val t.index mode reading
  | .ticket n => .watchHit true n t.index mode reading
  | .replay => .watchHit false 0 t.index mode reading

/-- R117: the watch outcome of a transaction that ends with a result. -/
def State.watchOutcome (s : State) (e : Engine) (t : Transaction) (r : Result) : Option WatchOutcome :=
  match t.transfer.op with
  | .watch mode _ =>
    if r = .done then
      some (if comparisonHits s.staging t.transfer mode (e.reading t) then .hit else .noHit)
    else none
  | .read => none
  | .write => none

/-- R97 step 1, R116, R118: for a WATCH with result DONE, the store of the last-read part and the claim of WATCH_HIT. -/
def State.settleWatch (s : State) (e : Engine) (t : Transaction) (r : Result) : State :=
  match t.transfer.op with
  | .watch mode _ =>
    if r = .done then
      let s1 :=
        { s with
          staging := s.staging.writeBytes (t.transfer.position + 2 * t.transfer.length) (e.reading t) }
      s1.claimIf (s.watchOutcome e t r == some .hit) (watchHitNotice t mode (e.reading t))
    else s
  | .read => s
  | .write => s

/-! ### Completion (R95 to R98) -/

/-- R97 step 2, R98: the counters of a completion. -/
def Engine.countCompletion (e : Engine) (r : Result) : Engine :=
  { e with transactions := saturate e.transactions,
           failures := if r = .done then e.failures else saturate e.failures }

/-- R97 step 5: transaction, segment and phase become none and abort requested is cleared. -/
def Engine.letGo (e : Engine) : Engine :=
  { e with activity := .none, transaction := none, segment := none, abortRequested := false, waitTimer := none,
           stretchTimer := none, cycleTimer := none, cycleExpired := false }

/-- R52, R97 step 3: the port's busy-range entry is removed, a grant occasion for every arbiter whose port is IDLE. -/
def State.releaseRange (s : State) (p : Port) : State :=
  allPorts.foldl State.raiseOccasionIfIdle { s with busy := s.busy.set p none }

/-- R97 steps 3 and 4, R180: the record goes on its way to the Target Table; a boot memory read's straight to the Replay
Unit. -/
def State.passRecord (s : State) (p : Port) (t : Transaction) (rec_ : Record) (outcome : Option WatchOutcome) : State :=
  match t.owner with
  | .replay => { s with replay := { s.replay with record := some rec_ } }
  | .channel _ | .ticket _ =>
    let s1 := s.releaseRange p
    s1.setEngine p
      { s1.engine p with
        record := some { record := rec_, owner := t.owner, slot := t.transfer.slot, outcome := outcome } }

/-- R101: a recovery begins, its first attempt at once, with the clock wait of R102. -/
def Engine.beginRecovery (e : Engine) (inTick : Bool) : Engine :=
  { e with activity := .none, stretchTimer := none,
           recovery := some { attempt := 1, pulses := 0, step := .clockWait },
           waitTimer := some (intervalTicks inTick Config.clockWaitMs) }

/-- R101: the port enters RECOVERING. -/
def State.enterRecovery (s : State) (p : Port) (inTick : Bool) : State :=
  (s.setEngine p ((s.engine p).beginRecovery inTick)).enterPortState p .recovering

/-- R96, R97 step 5: the port takes its next state; while PT_RESET requested is set, RECOVERING instead of IDLE. -/
def State.takeCourse (s : State) (p : Port) (course : Course) (inTick : Bool) : State :=
  match course with
  | .idle => if (s.engine p).ptResetRequested then s.enterRecovery p inTick else s.enterPortState p .idle
  | .recovering => s.enterRecovery p inTick
  | .failed => s.enterPortState p .failed

/-- R97: the transaction of a port ends with a result. inTick: while taking the effect of a tick (R125). -/
def State.endTransaction (s : State) (p : Port) (e : Engine) (t : Transaction) (r : Result) (course : Course)
    (inTick : Bool) : State :=
  let rec_ : Record := { result := r, moved := e.bytesMoved t r, attempts := e.attempts }
  let s1 := (s.settleWatch e t r).setEngine p (e.countCompletion r)
  let s2 := s1.passRecord p t rec_ (s.watchOutcome e t r)
  let s3 := (s2.setEngine p (s2.engine p).letGo).setArbiter p { s2.arbiter p with grant := none }
  s3.takeCourse p course inTick

/-- What a bus event has made of the engine, taken over into the state. -/
def State.proceed (s : State) (p : Port) (t : Transaction) (inTick : Bool) : Progress → State
  | .goesOn e => s.setEngine p e
  | .ends e r course => s.endTransaction p e t r course inTick

/-! ### Beginning a transaction (R80, R81) -/

/-- R80 steps 2 and 3: the engine takes the transaction. Abort requests not taken before belong to earlier transactions
(R92, log entry 15), and a port that takes a transaction has no recovery under way (R100). -/
def Engine.take (e : Engine) (t : Transaction) : Engine :=
  { e with transaction := some t, attempts := 0, confirmed := 0, moved := 0, segment := none, abortRequested := false,
           scratch := List.replicate 16 0, recovery := none, cycleTimer := none, cycleExpired := false,
           abortRequests := [] }

/-- R80, R81: the port becomes BUSY and the line check is made: with both lines high the first attempt begins, else the port
goes to RECOVERING with the transaction pending. -/
def State.beginTransaction (s : State) (p : Port) (t : Transaction) (lines : Lines) : State :=
  let s1 := (s.setEngine p ((s.engine p).take t)).enterPortState p .busy
  if lines.bothHigh then s1.setEngine p ((s1.engine p).beginFirstAttempt t) else s1.enterRecovery p false

/-! ### The engine's steps -/

/-- A step of the engine of a BUSY port with its transaction; in any other state the event does not arise. -/
def whenBusy (p : Port) (s : State) (f : Engine → Transaction → State) : State :=
  match (s.engine p).transaction with
  | none => s
  | some t => if (s.engine p).portState = .busy then f (s.engine p) t else s

/-- R45: the position of staging memory that the byte being clocked moves to or from, if it is one of staging memory's. -/
def Engine.stagingPosition (e : Engine) (t : Transaction) : Option Nat :=
  match e.activity with
  | .dataIn k => if t.transfer.op = .read then some (t.transfer.position + k) else none
  | .dataOut k => some (e.sourcePosition t k)
  | .none | .retryGap | .formStart | .beforeSegment | .formRestart | .address _ _ | .offset _ | .dataInExtra
  | .formStop _ | .betweenPolls | .pollStart | .poll | .stretchClockWait | .stretchStop => none

/-- R45: the byte being clocked is at a position that does not exist. A boot memory read does not touch staging memory. -/
def State.byteOutOfStaging (s : State) (p : Port) : Bool :=
  match (s.engine p).transaction with
  | none => false
  | some t =>
    t.owner != .replay && ((s.engine p).stagingPosition t).any (fun a => decide (Config.stagingBytes ≤ a))

/-- R46, R180: a byte received by a READ is stored: in staging memory, or in the script buffer for a boot memory read. -/
def State.storeReceived (s : State) (e : Engine) (t : Transaction) (data : Byte) : State :=
  match e.activity, t.transfer.op with
  | .dataIn k, .read =>
    match t.owner with
    | .replay => { s with replay := { s.replay with buffer := s.replay.buffer.write (t.transfer.position + k) data } }
    | .channel _ | .ticket _ => { s with staging := s.staging.write (t.transfer.position + k) data }
  | _, _ => s

/-- BYTE_COMPLETE (R76, R77, R82 to R86, R93). -/
def State.onByteComplete (s : State) (p : Port) (data : Byte) (ack : Bool) : State :=
  whenBusy p s fun e t => (s.storeReceived e t data).setEngine p (e.byteClocked t data ack)

/-- R45, R48: the STOP being formed ends a WATCH whose block leaves the 8192 bytes. -/
def State.watchOutOfStaging (s : State) (p : Port) : Bool :=
  match (s.engine p).transaction with
  | none => false
  | some t =>
    match t.transfer.op with
    | .watch _ _ =>
      (s.engine p).activity == .formStop .final
      && decide (Config.stagingBytes < t.transfer.position + 3 * t.transfer.length)
    | .read => false
    | .write => false

/-- BUS_CONDITION_FORMED (R76, R78, R82 to R89, R93, R97). -/
def State.onBusConditionFormed (s : State) (p : Port) (lines : Lines) : State :=
  whenBusy p s fun e t => s.proceed p t false (e.conditionFormed t lines)

/-- R79: the engine releases the data line to send a 1 bit and checks it: in an address, offset or data byte that holds a 1 bit,
in a poll, and while it forms a START, repeated START or STOP. DEDUCED (log entry 37): a byte 0x00 has no such bit. -/
def State.conflictCanArise (s : State) (p : Port) : Bool :=
  (s.engine p).activity.checksConflict && (s.byteSent p != some 0 || (s.engine p).activity == .poll)

/-- BUS_CONFLICT (R79): the engine stops driving at once and the transaction ends. -/
def State.onBusConflict (s : State) (p : Port) : State :=
  whenBusy p s fun e t => if s.conflictCanArise p then s.endTransaction p e t .busConflict .recovering false else s

/-- STRETCH_END (R78): the clock line reads high, the limit is cancelled and the procedure goes on where it was held. -/
def State.onStretchEnd (s : State) (p : Port) : State :=
  whenBusy p s fun e _ => if e.activity.clocks then s.setEngine p { e with stretchTimer := none } else s

/-- R78: the stretch limit has run out. -/
def Engine.stretchDue (e : Engine) : Bool := e.activity.clocks && ranOut e.stretchTimer

/-- STRETCH_TIMEOUT (R78): the engine releases both lines and waits for the clock line. The cycle limit has no further part in
the transaction. -/
def State.onStretchTimeout (s : State) (p : Port) : State :=
  whenBusy p s fun e _ =>
    if e.stretchDue then
      s.setEngine p
        { e.turnTo .stretchClockWait with
          waitTimer := some (intervalTicks true Config.clockWaitMs), cycleTimer := none, cycleExpired := false }
    else s

/-- R78: the clock line has not read high within 1 ms after STRETCH_TIMEOUT. -/
def Engine.clockWaitDue (e : Engine) : Bool := e.activity == .stretchClockWait && ranOut e.waitTimer

/-- STOP_CLOCK_WAIT_EXPIRY (R78): no STOP is formed; the completion is made and the port goes to RECOVERING. -/
def State.onStopClockWaitExpiry (s : State) (p : Port) : State :=
  whenBusy p s fun e t => if e.clockWaitDue then s.endTransaction p e t .stretchTimeout .recovering true else s

/-- CYCLE_POLL_ANSWER (R87): a poll, with its START, address byte and STOP, has been carried to its end. -/
def State.onCyclePollAnswer (s : State) (p : Port) (ack : Bool) : State :=
  whenBusy p s fun e t => if e.activity = .poll then s.proceed p t false (e.pollAnswered t ack) else s

/-- R87: the cycle limit has run out. -/
def Engine.cycleDue (e : Engine) : Bool := e.activity.phase == .cyclePoll && ranOut e.cycleTimer

/-- CYCLE_LIMIT_EXPIRY (R87). -/
def State.onCycleLimitExpiry (s : State) (p : Port) (startBegun : Bool) : State :=
  whenBusy p s fun e t => if e.cycleDue then s.proceed p t true (e.found startBegun).cycleLimitOut else s

/-- R89: the retry gap has run out. -/
def Engine.retryDue (e : Engine) : Bool := e.activity == .retryGap && ranOut e.waitTimer

/-- RETRY_GAP_END (R89, R90): the next attempt begins: the whole procedure, or the current segment of a memory write. -/
def State.onRetryGapEnd (s : State) (p : Port) : State :=
  whenBusy p s fun e _ => if e.retryDue then s.setEngine p e.beginAttempt else s

/-- R92: the request reaches the engine's transaction: only while it belongs to the owner named, and only the first one. -/
def State.takeAbortRequest (s : State) (p : Port) (owner : Owner) (startBegun : Bool) : State :=
  match (s.engine p).transaction with
  | none => s
  | some t =>
    if t.owner = owner ∧ (s.engine p).abortRequested = false then
      match (s.engine p).portState with
      | .busy => s.proceed p t false ((s.engine p).found startBegun).takeAbort
      | .recovering => s.setEngine p { s.engine p with abortRequested := true }
      | .disabled => s
      | .idle => s
      | .failed => s
    else s

/-- ABORT_REQUEST (R92, R93, R81): the engine takes the oldest request sent to it. -/
def State.onAbortRequest (s : State) (p : Port) (startBegun : Bool) : State :=
  match (s.engine p).abortRequests with
  | [] => s
  | owner :: rest => (s.setEngine p { s.engine p with abortRequests := rest }).takeAbortRequest p owner startBegun

end Sys2Proof.Machine
end

