-- ==== Sys2Proof/Machine/Recovery.lean ====
section
/-! DEFINITION. The recovery procedure (sections 6.3 and 6.4) and its steps: CLOCK_WAIT_END, RECOVERY_PULSE,
RECOVERY_CLOCK_WAIT_EXPIRY, RECOVERY_ATTEMPT_END, RECOVERY_GAP_END. A completion record that the engine still holds goes to
the Target Table before any of them (R97, R101). -/

namespace Sys2Proof.Machine

/-- R104, R105 steps 2 and 3: the recoveries counter increases, the recovery becomes none, PT_RESET requested is cleared. -/
def Engine.closeRecovery (e : Engine) : Engine :=
  { e with recoveries := saturate e.recoveries, recovery := none, ptResetRequested := false, waitTimer := none }

/-- R104 step 4: the port takes its next course after a recovery that succeeded. -/
def State.afterRecovery (s : State) (p : Port) (inTick : Bool) : State :=
  match (s.engine p).transaction with
  | none => s.enterPortState p .idle
  | some t =>
    if (s.engine p).abortRequested then s.endTransaction p (s.engine p) t .aborted .idle inTick
    else
      let s1 := s.enterPortState p .busy
      s1.setEngine p ((s1.engine p).beginFirstAttempt t)

/-- R104: a recovery succeeds. -/
def State.recoverySucceeds (s : State) (p : Port) : State :=
  let s1 := s.claim (.portRecovered p (s.engine p).recoveryAttempt)
  (s1.setEngine p (s1.engine p).closeRecovery).afterRecovery p false

/-- R105 step 4: the port becomes FAILED after a recovery that failed, ending the transaction that waited on it. -/
def State.afterFailedRecovery (s : State) (p : Port) (inTick : Bool) : State :=
  match (s.engine p).transaction with
  | none => s.enterPortState p .failed
  | some t => s.endTransaction p (s.engine p) t .portFailed .failed inTick

/-- R105: a recovery fails. -/
def State.recoveryFails (s : State) (p : Port) (inTick : Bool) : State :=
  let s1 := s.claim (.portFailed p)
  (s1.setEngine p (s1.engine p).closeRecovery).afterFailedRecovery p inTick

/-- The recovery turns to a step of R102 or to the gap of R103, with the interval that bounds it. -/
def Engine.recoverAt (e : Engine) (r : Recovery) (timer : Option Nat) : Engine :=
  { e with recovery := some r, waitTimer := timer }

/-- R102 step 6, R103: an attempt fails: the 10 ms gap starts, or with the third attempt the recovery fails. -/
def State.attemptFails (s : State) (p : Port) (r : Recovery) (inTick : Bool) : State :=
  if r.attempt < Config.recoveryAttempts then
    s.setEngine p
      ((s.engine p).recoverAt { r with step := .gap } (some (intervalTicks inTick Config.recoveryGapMs)))
  else s.recoveryFails p inTick

/-- A step of the recovery under way on a RECOVERING port, where it arises, by the recovery and its timer; in any other state the
event does not arise. The record of the transaction that the recovery followed has gone to its owner before (R97, R101, log
entry 12). -/
def whenRecovering (p : Port) (s : State) (arises : Recovery → Option Nat → Bool)
    (f : State → Engine → Recovery → State) : State :=
  match (s.engine p).recovery with
  | none => s
  | some r =>
    if (s.engine p).portState = .recovering ∧ arises r (s.engine p).waitTimer = true then
      let s1 := s.onTargetAccounting p
      f s1 (s1.engine p) r
    else s

/-- R102 steps 3 to 5: the clock line reads high: with the data line high, or after nine pulses, the engine forms the STOP, with
a clock wait of its own; otherwise it gives a pulse. In the STOP the clock wait ends. -/
def Engine.clockHigh (e : Engine) (r : Recovery) (dataHigh : Bool) : Engine :=
  match r.step with
  | .clockWait =>
    if dataHigh || decide (Config.recoveryPulses ≤ r.pulses) then
      e.recoverAt { r with step := .stop } (some (intervalTicks false Config.clockWaitMs))
    else e.recoverAt { r with step := .pulse } none
  | .stop => e.recoverAt r none
  | .pulse => e
  | .gap => e

/-- CLOCK_WAIT_END (R102, R78): in a recovery attempt, or after STRETCH_TIMEOUT, where the engine goes on to form its STOP. -/
def State.onClockWaitEnd (s : State) (p : Port) (dataHigh : Bool) : State :=
  if s.portState p = .recovering then
    whenRecovering p s (fun r _ => r.step == .clockWait || r.step == .stop) fun s e r =>
      s.setEngine p (e.clockHigh r dataHigh)
  else
    whenBusy p s fun e _ =>
      if e.activity = .stretchClockWait then s.setEngine p (e.turnTo .stretchStop) else s

/-- RECOVERY_PULSE (R102 step 4): the pulses given increase by one and the engine returns to its clock wait. -/
def State.onRecoveryPulse (s : State) (p : Port) : State :=
  whenRecovering p s (fun r _ => r.step == .pulse) fun s e r =>
    s.setEngine p
      (e.recoverAt { r with pulses := r.pulses + 1, step := .clockWait } (some (intervalTicks false Config.clockWaitMs)))

/-- R102 steps 2 and 5: the clock wait of a recovery attempt has run out. -/
def Recovery.clockWaitDue (r : Recovery) (timer : Option Nat) : Bool :=
  (r.step == .clockWait || r.step == .stop) && ranOut timer

/-- RECOVERY_CLOCK_WAIT_EXPIRY (R102 steps 2 and 5). -/
def State.onRecoveryClockWaitExpiry (s : State) (p : Port) : State :=
  whenRecovering p s Recovery.clockWaitDue fun s _ r => s.attemptFails p r true

/-- RECOVERY_ATTEMPT_END (R102 step 5, R103 to R105): the STOP has been formed and both lines are read. -/
def State.onRecoveryAttemptEnd (s : State) (p : Port) (lines : Lines) : State :=
  whenRecovering p s (fun r _ => r.step == .stop) fun s _ r =>
    if lines.bothHigh then s.recoverySucceeds p else s.attemptFails p r false

/-- R103: the gap after a failed attempt has run out. -/
def Recovery.gapDue (r : Recovery) (timer : Option Nat) : Bool := r.step == .gap && ranOut timer

/-- RECOVERY_GAP_END (R103): the next attempt begins, while taking the effect of a tick. -/
def State.onRecoveryGapEnd (s : State) (p : Port) : State :=
  whenRecovering p s Recovery.gapDue fun s e r =>
    s.setEngine p
      (e.recoverAt { attempt := r.attempt + 1, pulses := 0, step := .clockWait }
        (some (intervalTicks true Config.clockWaitMs)))

end Sys2Proof.Machine
end

