-- ==== Sys2Proof/Machine/Signals.lean ====
section
/-! DEFINITION. Bus signalling (R76): the levels that an engine drives and releases on its two lines in a START, a repeated
START, a STOP, a bit and a byte, the order of a byte's bits, and what a port's engine signals in each state. A level true is a
line released, false one driven low. -/

namespace Sys2Proof.Machine

/-- R76: the bits of a byte in the order they are clocked, the most significant first. -/
def bitsOf (b : Byte) : List Bool := (List.range 8).map (fun i => b.getMsbD i)

/-- R76: the byte whose bits these are, the most significant first. -/
def byteOfBits (bits : List Bool) : Byte := bits.foldl (fun acc b => acc * 2 + (if b then 1 else 0)) 0

/-- Both lines released. -/
def released : Lines := { clock := true, data := true }

/-- R76: START: with both lines high the data line is driven low while the clock line is high. -/
def startSignal : List Lines := [released, { clock := true, data := false }]

/-- R76: repeated START: the data line is released while the clock is low, then the clock is released, then the data line is
driven low while the clock is high. -/
def repeatedStartSignal : List Lines := [{ clock := false, data := true }, released, { clock := true, data := false }]

/-- R76: STOP: with the clock low the data line is driven low, then the clock is released, then the data line is released. -/
def stopSignal : List Lines := [{ clock := false, data := false }, { clock := true, data := false }, released]

/-- R76: a bit: the data line changes while the clock is driven low, for the low half, and stays through the high half, for
which the clock is released. -/
def bitSignal (b : Bool) : List Lines := [{ clock := false, data := b }, { clock := true, data := b }]

/-- R76: a byte sent: eight data bits, and the data line released for the acknowledge bit. -/
def sentByteSignal (b : Byte) : List Lines := (bitsOf b).flatMap bitSignal ++ bitSignal true

/-- R76: a byte received: the data line released for eight bits, then the acknowledge bit driven: low is ACK. -/
def receivedByteSignal (ack : Bool) : List Lines := (List.replicate 8 true).flatMap bitSignal ++ bitSignal (!ack)

/-- R76, R102 step 4: a clock pulse of a recovery attempt, with the data line released. -/
def pulseSignal : List Lines := bitSignal true

/-- What an engine signals in an activity, with the byte it sends and the acknowledge bit it drives. -/
def Activity.signal (a : Activity) (sent : Byte) (ack : Bool) : List Lines :=
  match a with
  | .formStart | .beforeSegment | .betweenPolls | .pollStart => startSignal
  | .formRestart => repeatedStartSignal
  | .address _ _ | .offset _ | .dataOut _ => sentByteSignal sent
  | .poll => sentByteSignal sent ++ stopSignal
  | .dataIn _ | .dataInExtra => receivedByteSignal ack
  | .formStop _ | .stretchStop => stopSignal
  | .none | .retryGap | .stretchClockWait => [released]

/-- What an engine signals in a step of a recovery (R102). -/
def RecoveryStep.signal : RecoveryStep → List Lines
  | .pulse => pulseSignal
  | .stop => stopSignal
  | .clockWait | .gap => [released]

/-- R73, R76, R102, R106: what a port's engine signals in its present step, level after level: by its procedure while BUSY, by the
recovery while RECOVERING, and both lines released otherwise. -/
def State.signal (s : State) (p : Port) : List Lines :=
  let e := s.engine p
  match e.portState with
  | .busy => e.activity.signal ((s.byteSent p).getD 0) ((s.ackDriven p).getD false)
  | .recovering => (e.recovery.map (·.step.signal)).getD [released]
  | .disabled => [released]
  | .idle => [released]
  | .failed => [released]

/-- R76, R102: the rate at which a port's engine clocks: the speed in its transaction's definition while BUSY, 100 kHz in a
recovery. -/
def State.clockRate (s : State) (p : Port) : Option Speed :=
  let e := s.engine p
  match e.portState with
  | .busy => e.transaction.map (·.defn.speed)
  | .recovering => some .khz100
  | .disabled => none
  | .idle => none
  | .failed => none

end Sys2Proof.Machine
end

