-- ==== Sys2Proof/Machine/Line.lean ====
section
/-! DEFINITION. The line of the control link (R157, R167): the bits of a character, what LTX carries, and the rate that the straps
set. A level true is a line that is high. -/

namespace Sys2Proof.Machine

/-- R157: the eight data bits of a character in the order the line carries them, the least significant first. -/
def dataBitsOf (char : Byte) : List Bool := (List.range 8).map (fun i => char.getLsbD i)

/-- R157: the character whose data bits these are, the least significant first. -/
def characterOfBits (bits : List Bool) : Byte := byteOfBits bits.reverse

/-- R157: a character on the line, a level for each bit time: a start bit, which is low, the data bits, and a stop bit, which is
high. -/
def characterSignal (char : Byte) : List Bool := false :: dataBitsOf char ++ [true]

/-- R157, R167: the levels of a frame, character after character, with no gap between them. -/
def Sending.signal (f : Sending) : List Bool := f.bytes.flatMap characterSignal

/-- R157, R167: what LTX carries: the frame being sent, and between frames the idle line, which is high. -/
def State.ltx (s : State) : List Bool :=
  match s.out.sending with
  | none => [true]
  | some f => f.signal

/-- R157, section 6 of 00_scope.md: the rate in baud that the straps BAUD1 and BAUD0 set. -/
def baudRateOf (straps : Straps) : Nat :=
  match straps.baud1, straps.baud0 with
  | false, false => 115200
  | false, true => 460800
  | true, false => 1000000
  | true, true => 3000000

/-- R157: the rate of the control link, in both directions, by the straps as they were last sampled. -/
def State.linkRate (s : State) : Nat := baudRateOf s.straps

end Sys2Proof.Machine
end

