-- ==== Sys2Proof/Machine/Due.lean ====
section
/-! DEFINITION. Expiries: what a tick has ended has its effect before any other event is taken (R125, R126, R132). A step of the
table is taken by whenOperating, which takes the expiries due first, or, where the step is itself an expiry, by whenDue. -/

namespace Sys2Proof.Machine

/-- The expiries of the part's intervals, each the step of the table that is named for it. -/
inductive Expiry where
  | pacer (n : PacerIx)
  | pause (c : ChannelIx)
  | passGap (c : ChannelIx)
  | linkGap
  | retransmit (number : Nat)
  | stretch (p : Port)
  | stopClockWait (p : Port)
  | cycleLimit (p : Port) (startBegun : Bool)
  | retryGap (p : Port)
  | recoveryClockWait (p : Port)
  | recoveryGap (p : Port)
deriving DecidableEq, Repr

/-- The effect of an expiry, none where it is not due. -/
def State.expire (s : State) : Expiry → State
  | .pacer n => s.onPacerExpiry n
  | .pause c => s.onPauseExpiry c
  | .passGap c => s.onPassGapEnd c
  | .linkGap => s.onGapExpiry
  | .retransmit number => s.onRetransmitTimerExpiry number
  | .stretch p => s.onStretchTimeout p
  | .stopClockWait p => s.onStopClockWaitExpiry p
  | .cycleLimit p startBegun => s.onCycleLimitExpiry p startBegun
  | .retryGap p => s.onRetryGapEnd p
  | .recoveryClockWait p => s.onRecoveryClockWaitExpiry p
  | .recoveryGap p => s.onRecoveryGapEnd p

/-- A tick has ended the interval, on a BUSY port. -/
def State.busyDue (s : State) (p : Port) (due : Engine → Bool) : Bool :=
  s.portState p == .busy && (s.engine p).transaction.isSome && due (s.engine p)

/-- A tick has ended the interval, on a RECOVERING port. -/
def State.recoveryDue (s : State) (p : Port) (due : Recovery → Option Nat → Bool) : Bool :=
  s.portState p == .recovering && (s.engine p).recovery.any (fun r => due r (s.engine p).waitTimer)

/-- A tick has ended the interval, and its expiry is still to be taken. -/
def State.isDue (s : State) : Expiry → Bool
  | .pacer n => (s.pacer n).due
  | .pause c => (s.channel c).pauseDue
  | .passGap c => (s.channel c).passGapDue
  | .linkGap => s.link.gapDue
  | .retransmit number => s.out.notices.timerDue number
  | .stretch p => s.busyDue p Engine.stretchDue
  | .stopClockWait p => s.busyDue p Engine.clockWaitDue
  | .cycleLimit p _ => s.busyDue p Engine.cycleDue
  | .retryGap p => s.busyDue p Engine.retryDue
  | .recoveryClockWait p => s.recoveryDue p Recovery.clockWaitDue
  | .recoveryGap p => s.recoveryDue p Recovery.gapDue

/-- Every interval that can run, in the order in which expiries due together are taken when no step of their own takes them
(DESIGN CHOICE, log entry 41): pacers, channels, link, notices, ports. DESIGN CHOICE (log entry 42): a cycle limit taken so, and
not by CYCLE_LIMIT_EXPIRY itself, finds the START of the next poll begun, so that poll is still carried to its end; before an
ABORT_REQUEST too, whatever that step's own operand says of the START. -/
def State.intervals (s : State) : List Expiry :=
  [Expiry.pacer 0, .pacer 1, .pacer 2, .pacer 3]
  ++ allChannels.flatMap (fun c => [Expiry.pause c, .passGap c])
  ++ [Expiry.linkGap]
  ++ s.out.notices.held.map (fun n => Expiry.retransmit n.number)
  ++ allPorts.flatMap (fun p =>
      [Expiry.stretch p, .stopClockWait p, .cycleLimit p true, .retryGap p, .recoveryClockWait p, .recoveryGap p])

/-- The expiries that are due. -/
def State.expiries (s : State) : List Expiry := s.intervals.filter s.isDue

/-- R125: the state with every expiry due taken. -/
def State.takeDue (s : State) : State := s.expiries.foldl State.expire s

/-- The part is in operation and no expiry is due. -/
def State.quiet (s : State) : Bool := s.operating && s.expiries.isEmpty

/-- R177: while it is held in reset the part takes no event. R125: what a tick has ended comes before the event. DESIGN CHOICE
(log entry 5): a step whose event does not arise in this state leaves it unchanged, and f answers so. -/
def whenOperating (s : State) (f : State → State) : StepOutcome := .next (if s.operating then f s.takeDue else s)

/-- A step that is itself an expiry, whenever it is due. -/
def whenDue (s : State) (x : Expiry) : StepOutcome := .next (if s.operating then s.expire x else s)

/-- The state in which an event of the part is taken: in operation, with every expiry due taken. -/
def State.settled (s : State) : State := if s.operating then s.takeDue else s

end Sys2Proof.Machine
end

