-- ==== Sys2Proof/Machine/Ports.lean ====
section
/-! DEFINITION. The port commands (section 6.6) and PORT_ANNOUNCEMENT (R107). -/

namespace Sys2Proof.Machine

/-- R108: a port outside A to D is refused with BAD_VALUE before any other check. -/
def withPort (payload : List Byte) (s : State) (f : Port → Settled) : Settled :=
  match portOf (at1 payload 0) with
  | none => refuse s .badValue
  | some p => f p

/-! ### PORT_ANNOUNCEMENT (R107) -/

/-- R107: the transfer's target lies on the port. -/
def State.liesOn (s : State) (p : Port) (t : Transfer) : Bool :=
  (s.slot t.slot).target.any (fun tg => tg.defn.port == p)

/-- R107: an announcement of the port is taken, which leaves these still to come: the heads and tickets that wait and whose
target lies there are re-evaluated, with the port as it stands (log entry 13). -/
def State.hearAnnouncement (s : State) (p : Port) (order : List Party) (left : List PortState) : State :=
  { s with portNews := s.portNews.set p left }.reevaluate (s.liesOn p) order

/-- PORT_ANNOUNCEMENT (R107): the oldest change announced by the port's engine is taken. -/
def State.onPortAnnouncement (s : State) (p : Port) (order : List Party) : State :=
  match s.portNews.get p with
  | [] => s
  | _ :: rest => s.hearAnnouncement p order rest

/-- R107: the announcement of each change follows it in turn, so what the port has announced is taken before a port command
changes its state again (log entry 13). DESIGN CHOICE (log entry 44): the parties are taken channels ascending, then tickets. -/
def State.hearPort (s : State) (p : Port) : State :=
  if (s.portNews.get p).isEmpty then s else s.hearAnnouncement p [] []

/-! ### The port commands -/

/-- PT_ENABLE (R109). -/
def settlePtEnable (payload : List Byte) (s : State) : Settled :=
  withPort payload s fun p =>
    if s.portState p = .disabled then taken ((s.hearPort p).enterPortState p .idle) [] else refuse s .wrongState

/-- PT_DISABLE (R110). -/
def settlePtDisable (payload : List Byte) (s : State) : Settled :=
  withPort payload s fun p =>
    match s.portState p with
    | .idle => taken ((s.hearPort p).enterPortState p .disabled) []
    | .failed => taken ((s.hearPort p).enterPortState p .disabled) []
    | .disabled => taken s []
    | .busy => refuse s .busy
    | .recovering => refuse s .busy

/-- R111: PT_RESET requested is set. -/
def State.requestReset (s : State) (p : Port) : State :=
  s.setEngine p { s.engine p with ptResetRequested := true }

/-- R111, BUSY: an abort request for the transaction in flight, naming the current grant's owner, goes to the engine. -/
def State.abortGranted (s : State) (p : Port) : State :=
  match (s.arbiter p).grant with
  | none => s
  | some owner => s.sendAbort p owner

/-- R111, RECOVERING: the engine takes an abort request for the pending transaction, naming the current grant's owner. -/
def State.abortPending (s : State) (p : Port) : State :=
  match (s.arbiter p).grant with
  | none => s
  | some owner => s.takeAbortRequest p owner false

/-- R111: what PT_RESET does in each state of a port that is not DISABLED. -/
def State.resetPort (s : State) (p : Port) : State :=
  match s.portState p with
  | .idle => ((s.hearPort p).requestReset p).enterRecovery p false
  | .failed => ((s.hearPort p).requestReset p).enterRecovery p false
  | .busy => (s.requestReset p).abortGranted p
  | .recovering => (s.requestReset p).abortPending p
  | .disabled => s

/-- PT_RESET (R111): the reply carries the port state as it stands once the command has been taken. -/
def settlePtReset (payload : List Byte) (s : State) : Settled :=
  withPort payload s fun p =>
    if s.portState p = .disabled then refuse s .wrongState
    else taken (s.resetPort p) (byte1 ((s.resetPort p).portState p).code)

/-- R112, R195: the port as PT_GET carries it. -/
def portBytes (e : Engine) : List Byte :=
  byte1 e.portState.code ++ byte1 e.phase.code ++ byte1 e.recoveryAttempt ++ bytes2 e.transactions
  ++ bytes2 e.failures ++ bytes2 e.recoveries

/-- PT_GET (R112). -/
def settlePtGet (payload : List Byte) (s : State) : Settled :=
  withPort payload s fun p => taken s (portBytes (s.engine p))

end Sys2Proof.Machine
end

