-- ==== Sys2Proof/Machine/Arbiter.lean ====
section
/-! DEFINITION. The Dispatch Arbiters (sections 4.1 to 4.3): GRANT_OCCASION. -/

namespace Sys2Proof.Machine

/-- R59: the transfer's range conflicts with no entry of the busy-range list. -/
def State.eligible (s : State) (t : Transfer) : Bool := s.busyList.all (fun r => !t.busyRange.conflicts r)

/-- R60 item 1: the eligible ticket accepted earliest. -/
def State.winningTicket (s : State) (p : Port) : Option Ticket :=
  (s.candidateTickets p).find? (fun t => s.eligible t.transfer)

/-- R59: an eligible channel head in the port's set. -/
def State.headEligible (s : State) (c : ChannelIx) : Bool := ((s.channel c).headTransfer).any s.eligible

/-- R60 items 2 and 3: of two heads, the one of higher priority, the earlier one among equals. -/
def State.betterHead (s : State) (best : Option ChannelIx) (c : ChannelIx) : Option ChannelIx :=
  match best with
  | none => some c
  | some b => if (s.channel b).priority.rank < (s.channel c).priority.rank then some c else some b

/-- R60 items 2 and 3: the eligible head of the highest priority, of the lowest-numbered channel among equals. -/
def State.winningHead (s : State) (p : Port) : Option ChannelIx :=
  ((s.candidateHeads p).filter s.headEligible).foldl s.betterHead none

/-- R61: the blocks that take a grant: the busy range, the slot's mark, the current grant, the port. -/
def State.grantTo (s : State) (p : Port) (owner : Owner) (index : Nat) (tr : Transfer) (d : Definition) (lines : Lines) :
    State :=
  let s1 := { s with busy := s.busy.set p (some tr.busyRange) }
  let s2 := s1.setSlot tr.slot { s1.slot tr.slot with inFlight := true }
  let s3 := s2.setArbiter p { s2.arbiter p with grant := some owner }
  s3.beginTransaction p { owner := owner, index := index, transfer := tr, defn := d } lines

/-- R61, R68: a ticket is granted. -/
def State.grantTicket (s : State) (p : Port) (t : Ticket) (lines : Lines) : State :=
  match (s.slot t.transfer.slot).target with
  | none => s
  | some tg =>
    (s.modifyTicket t.number (fun t => { t with state := .inFlight })).grantTo p (.ticket t.number) 0 t.transfer tg.defn
      lines

/-- R61, R17: a channel head is granted. -/
def State.grantHead (s : State) (p : Port) (c : ChannelIx) (lines : Lines) : State :=
  match (s.channel c).headTransfer with
  | none => s
  | some tr =>
    match (s.slot tr.slot).target with
    | none => s
    | some tg =>
      (s.setChannel c { s.channel c with head := .onPort p }).grantTo p (.channel c) (s.channel c).position tr tg.defn
        lines

/-- R60: the winner is granted; without one the port stays IDLE. -/
def State.grantWinner (s : State) (p : Port) (lines : Lines) : State :=
  match s.winningTicket p with
  | some t => s.grantTicket p t lines
  | none =>
    match s.winningHead p with
    | some c => s.grantHead p c lines
    | none => s

/-- R59: a change of a slot reaches every candidate that names it before the next occasion can grant it (log entry 11). -/
def State.slotNewsFor (s : State) (p : Port) : Bool :=
  (s.candidateTickets p).any (fun t => s.slotNews.contains t.transfer.slot)
  || (s.candidateHeads p).any (fun c => (s.channel c).headTransfer.any (fun t => s.slotNews.contains t.slot))

/-- R59: a change of the port itself that may withdraw its candidates, into FAILED or DISABLED, is still to be announced. -/
def State.portNewsFor (s : State) (p : Port) : Bool :=
  (s.portNews.get p).contains .failed || (s.portNews.get p).contains .disabled

/-- The occasion can be taken: it has arisen, the record of the port's last transaction has been handed on (R97, log entry 12),
and no change of slot or port is on its way to a candidate. -/
def State.occasionReady (s : State) (p : Port) : Bool :=
  (s.arbiter p).occasion && (s.engine p).record.isNone && !s.slotNewsFor p && !s.portNewsFor p

/-- GRANT_OCCASION (R58 to R61): if the port is not IDLE the occasion passes with no effect. -/
def State.onGrantOccasion (s : State) (p : Port) (lines : Lines) : State :=
  if s.occasionReady p then
    let s1 := s.setArbiter p { s.arbiter p with occasion := false }
    if s.portState p = .idle then s1.grantWinner p lines else s1
  else s

end Sys2Proof.Machine
end

