-- ==== Sys2Proof/Machine/Status.lean ====
section
/-! DEFINITION. The system commands PING, IDENTIFY, STATUS, STATS, RESTART (section 10.6) and ABORT_START (section 11.6). -/

namespace Sys2Proof.Machine

/-- PING (R172). -/
def settlePing (_payload : List Byte) (s : State) : Settled := taken s []

/-- R173, R196: the 15 bytes of IDENTIFY. -/
def identifyBytes : List Byte :=
  bytes2 Config.vendorCode ++ bytes2 Config.partCode ++ byte1 Config.revision
  ++ byte1 4 ++ byte1 32 ++ byte1 8 ++ byte1 Config.poolEntries
  ++ bytes2 Config.stagingBytes
  ++ byte1 4 ++ byte1 Config.noticeMax ++ byte1 Config.windowMax ++ byte1 Config.ticketMax

/-- IDENTIFY (R173). -/
def settleIdentify (_payload : List Byte) (s : State) : Settled := taken s identifyBytes

/-- R174, R196: the 18 bytes of STATUS. -/
def statusBytes (s : State) : List Byte :=
  byte1 s.replay.system.code
  ++ allPorts.flatMap (fun p => byte1 (s.portState p).code)
  ++ allChannels.flatMap (fun c => byte1 (s.channel c).state.code)
  ++ byte1 s.out.notices.held.length ++ byte1 (windowCount s.out.notices.held)
  ++ byte1 (flagCode s.out.notices.muted) ++ byte1 s.tickets.length ++ byte1 s.poolFree

/-- STATUS (R174). -/
def settleStatus (_payload : List Byte) (s : State) : Settled := taken s (statusBytes s)

/-- R196: the link counters of STATS. -/
def LinkCounters.bytes (c : LinkCounters) : List Byte :=
  bytes2 c.commandFrames ++ bytes2 c.acknowledgements ++ bytes2 c.gapDiscards ++ bytes2 c.badFrames
  ++ bytes2 c.crcErrors ++ bytes2 c.inboxOverruns ++ bytes2 c.duplicates

/-- R196: the notice counters of STATS. -/
def NoticeCounters.bytes (c : NoticeCounters) : List Byte :=
  bytes4 c.created.toNat ++ bytes4 c.merged.toNat ++ bytes4 c.discarded.toNat ++ bytes4 c.acknowledged.toNat
  ++ bytes4 c.retransmissions.toNat ++ bytes4 c.muteEntries.toNat ++ bytes4 c.strayAcks.toNat

/-- R175, R196: the 66 bytes of STATS. -/
def statsBytes (s : State) : List Byte :=
  s.link.counters.bytes
  ++ allPorts.flatMap (fun p =>
      bytes2 (s.engine p).transactions ++ bytes2 (s.engine p).failures ++ bytes2 (s.engine p).recoveries)
  ++ s.out.notices.counters.bytes

/-- R98, R175: the three counters of a port set to 0. -/
def Engine.clearCounters (e : Engine) : Engine := { e with transactions := 0, failures := 0, recoveries := 0 }

/-- R175: the link counters and the port counters are set to 0; the notice counters are not. -/
def State.clearStats (s : State) : State :=
  { s with link := { s.link with counters := LinkCounters.atReset }, engines := s.engines.map Engine.clearCounters }

/-- R175, R195: the clear flag; absent it is clear. -/
def clearFlagOf (payload : List Byte) : Option Bool :=
  match payload with
  | [] => some false
  | _ :: _ => flagOf (at1 payload 0)

/-- STATS (R175): the reply carries the values from before the clearing. -/
def settleStats (payload : List Byte) (s : State) : Settled :=
  match clearFlagOf payload with
  | none => refuse s .badValue
  | some clear => taken (if clear then s.clearStats else s) (statsBytes s)

/-- RESTART (R176), stage 1: from then on the interpreter takes no command. -/
def settleRestart (_payload : List Byte) (s : State) : Settled :=
  taken { s with out := { s.out with restart := .executed } } []

/-- R187: abort requested is set. -/
def State.requestStartAbort (s : State) : State := { s with replay := { s.replay with abortRequested := true } }

/-- ABORT_START (R187). -/
def settleAbortStart (_payload : List Byte) (s : State) : Settled :=
  if s.replay.system = .ready then refuse s .wrongState
  else if s.replay.abortRequested then taken s []
  else
    match s.replay.phase with
    | .header => taken (s.requestStartAbort.sendAbort .a .replay) []
    | .body => taken (s.requestStartAbort.sendAbort .a .replay) []
    | .execute => taken s.requestStartAbort []
    | .none => taken s.requestStartAbort []

end Sys2Proof.Machine
end

