-- ==== Sys2Proof/Machine/Replay.lean ====
section
/-! DEFINITION. Start-up and script replay (chapter 11): the start of operation, HEADER_READ_DONE, BODY_PIECE_DONE and
SCRIPT_RECORD. -/

namespace Sys2Proof.Machine

/-! ### The boot memory (R180, R198) -/

/-- R180: the fixed definition of the boot memory. DESIGN CHOICE (log entry 30): the fields it does not give, which no read
uses, are 0. -/
def bootDefinition : Definition where
  port := .a
  address := 0x50
  kind := .memory
  offsetWidth := 2
  extent := 0
  pageSize := 0
  speed := .khz100
  stretchLimit := 10
  cycleLimit := 0
  retries := 0
  fenceThreshold := 0

/-- R180: a read of the boot memory. It names no slot; its slot field is not used. -/
def bootRead (offset length position : Nat) : Transaction where
  owner := .replay
  index := 0
  transfer := { op := .read, slot := 0, offset := offset, length := length, position := position }
  defn := bootDefinition

/-- R181: the header read: 8 bytes from offset 0 into buffer positions 0 to 7. -/
def headerRead : Transaction := bootRead 0 8 0

/-- R182: the body piece that follows bytesRead bytes: 256 bytes, or those that remain if fewer. -/
def bodyPieceLength (scriptLength bytesRead : Nat) : Nat := min Config.pieceBytes (scriptLength - bytesRead)

/-- R182: piece k is read from offset 8 + 256 k into buffer positions 8 + 256 k onward. -/
def bodyRead (scriptLength bytesRead : Nat) : Transaction :=
  bootRead (8 + bytesRead) (bodyPieceLength scriptLength bytesRead) (8 + bytesRead)

/-- The byte of the script buffer at a position, as a number. -/
def Replay.byteAt (r : Replay) (position : Nat) : Nat := (r.buffer.read position).toNat

/-- R198: a 2-byte header field, least significant byte first. -/
def Replay.fieldAt (r : Replay) (position : Nat) : Nat := r.byteAt position + 256 * r.byteAt (position + 1)

/-- R181 item 4: marker, format and flags bytes. -/
def Replay.headerValid (r : Replay) : Bool :=
  decide (r.byteAt 0 = 0x4A ∧ r.byteAt 1 = 0x51 ∧ r.byteAt 2 = 1 ∧ r.byteAt 3 = 0)

/-- R183: the CRC-16 of the body equals the header's CRC field. -/
def Replay.crcMatches (r : Replay) : Bool :=
  (crc16 (r.buffer.readBytes 8 r.scriptLength)).toNat == r.fieldAt 6

/-! ### The end of start-up (R188) -/

/-- R188: the START_REPORT is claimed, and the system becomes READY. -/
def State.endStartup (s : State) (outcome : StartOutcome) (failing : Nat) (status : Status) : State :=
  let s1 := s.claim (.startReport outcome s.replay.executed failing status)
  { s1 with replay := { s1.replay with phase := .none, abortRequested := false, system := .ready } }

/-! ### The start of operation (R177, R179) -/

/-- R179: what the Replay Unit does on the sampled BOOT_EN. -/
def State.beginStartup (s : State) (lines : Lines) : State :=
  if s.straps.bootEn then
    { s with replay := { s.replay with system := .starting, phase := .header } }.beginTransaction .a headerRead lines
  else s.endStartup .skipped 0 .ok

/-- R177: operation starts: every block at its reset value, the straps sampled, and the Replay Unit acts on them. keepLink: the
link counters keep their values (R165, R176). -/
def State.startOperation (s : State) (keepLink : Bool) (straps : Straps) (lines : Lines) : State :=
  { s.resetBlocks keepLink with straps := straps }.beginStartup lines

/-! ### Reading (R181 to R183) -/

/-- R180: the record of a boot memory read is taken by the step of its phase. -/
def takeReadRecord (phase : ReplayPhase) (s : State) (f : Record → State → State) : State :=
  match s.replay.record with
  | none => s
  | some r =>
    if s.replay.system = .starting ∧ s.replay.phase = phase then
      f r { s with replay := { s.replay with record := none } }
    else s

/-- R181: the header read is settled by the first outcome that applies. -/
def State.settleHeader (s : State) (r : Record) (lines : Lines) : State :=
  let length := s.replay.fieldAt 4
  if s.replay.abortRequested then s.endStartup .aborted 0 .ok
  else if r.result = .addrNak then s.endStartup .noScript 0 .ok
  else if r.result ≠ .done then s.endStartup .readFault 0 .ok
  else if s.replay.headerValid = false then s.endStartup .badHeader 0 .ok
  else if length = 0 ∨ Config.scriptMax < length then s.endStartup .tooLong 0 .ok
  else
    { s with replay := { s.replay with scriptLength := length, phase := .body } }.beginTransaction .a (bodyRead length 0)
      lines

/-- R183: the whole body has been read. -/
def State.checkBody (s : State) : State :=
  if s.replay.crcMatches then
    { s with replay := { s.replay with phase := .execute, pointer := 8, index := 1 } }
  else s.endStartup .crcFault 0 .ok

/-- R182: a body piece is settled. -/
def State.settlePiece (s : State) (r : Record) (lines : Lines) : State :=
  let length := s.replay.scriptLength
  let read := s.replay.bytesRead + bodyPieceLength length s.replay.bytesRead
  if s.replay.abortRequested then s.endStartup .aborted 0 .ok
  else if r.result ≠ .done then s.endStartup .readFault 0 .ok
  else
    let s1 := { s with replay := { s.replay with bytesRead := read } }
    if read < length then s1.beginTransaction .a (bodyRead length read) lines else s1.checkBody

/-- HEADER_READ_DONE (R181). -/
def State.onHeaderReadDone (s : State) (lines : Lines) : State :=
  takeReadRecord .header s fun r s => s.settleHeader r lines

/-- BODY_PIECE_DONE (R182, R183). -/
def State.onBodyPieceDone (s : State) (lines : Lines) : State :=
  takeReadRecord .body s fun r s => s.settlePiece r lines

/-! ### Running the records (R170, R184, R185) -/

/-- The owner's settlement of a command kind (R169 step 4); RESTART, ABORT_START and STATS are refused in a record (R185). -/
def settleKind : CommandKind → List Byte → State → Settled
  | .ping => settlePing
  | .identify => settleIdentify
  | .status => settleStatus
  | .stats => fun _ s => refuse s .wrongState
  | .restart => fun _ s => refuse s .wrongState
  | .abortStart => fun _ s => refuse s .wrongState
  | .tgtSet => settleTgtSet
  | .tgtGet => settleTgtGet
  | .tgtRemove => settleTgtRemove
  | .tgtFence => settleTgtFence
  | .tgtUnfence => settleTgtUnfence
  | .memWrite => settleMemWrite
  | .memRead => settleMemRead
  | .chConfig => settleChConfig
  | .chLoad => settleChLoad
  | .chClear => settleChClear
  | .chStart => settleChStart
  | .chStop => settleChStop
  | .chAbort => settleChAbort
  | .chResume => settleChResume
  | .chGet => settleChGet
  | .pcSet => settlePcSet
  | .pcStart => settlePcStart
  | .pcStop => settlePcStop
  | .pcGet => settlePcGet
  | .ptEnable => settlePtEnable
  | .ptDisable => settlePtDisable
  | .ptReset => settlePtReset
  | .ptGet => settlePtGet
  | .xfer => settleXfer
  | .xferCancel => settleXferCancel

/-- R170: a record is executed by steps 1, 3 and 4 of R169. -/
def settleRecord (kindCode : Nat) (payload : List Byte) (s : State) : Settled :=
  match commandKindOf kindCode with
  | none => refuse s .unknownKind
  | some kind => if kind.lengthFits payload = false then refuse s .badLength else settleKind kind payload s

/-- R66: the first evaluation of a ticket that a record has posted, after the reply is handed back (log entry 24). -/
def Settled.evaluated (r : Settled) : State :=
  match r.evaluate with
  | none => r.state
  | some n => r.state.evaluateTicket n

/-- R185: the record was answered OK: counts, pointer and index move on, and at the script's end COMPLETE is concluded. -/
def State.recordDone (s : State) (length : Nat) : State :=
  let pointer := s.replay.pointer + length + 1
  let s1 :=
    { s with
      replay :=
        { s.replay with executed := s.replay.executed + 1, pointer := pointer, index := s.replay.index + 1 } }
  if pointer = 8 + s.replay.scriptLength then s1.endStartup .complete 0 .ok else s1

/-- R185: the Replay Unit takes the reply handed back for a record of this length. -/
def State.takeRecordReply (s : State) (length : Nat) (r : Settled) : State :=
  if r.status = .ok then r.evaluated.recordDone length
  else r.state.endStartup .commandFailed s.replay.index r.status

/-- R184 item 3: the length of the record at the pointer is wrong, or the record passes the script's end. -/
def Replay.recordWrong (r : Replay) : Bool :=
  let length := r.byteAt r.pointer
  decide (length < Config.bodyMin ∨ Config.bodyMax < length ∨ 8 + r.scriptLength ≤ r.pointer + length)

/-- R184 item 5, R198: kind and payload of the record at the pointer. -/
def Replay.recordKind (r : Replay) : Nat := r.byteAt (r.pointer + 3)
def Replay.recordPayload (r : Replay) : List Byte :=
  r.buffer.readBytes (r.pointer + 4) (r.byteAt r.pointer - 3)

/-- R184: the first that applies when the interpreter is free to take a record. -/
def State.runRecord (s : State) : State :=
  let r := s.replay
  if r.abortRequested then s.endStartup .aborted 0 .ok
  else if r.pointer = 8 + r.scriptLength then s.endStartup .complete 0 .ok
  else if r.recordWrong then s.endStartup .badRecord r.index .ok
  else if r.byteAt (r.pointer + 1) ≠ classCommand then s.endStartup .badRecord r.index .ok
  else s.takeRecordReply (r.byteAt r.pointer) (settleRecord r.recordKind r.recordPayload s)

/-- SCRIPT_RECORD (R170, R184, R185): a record does not wait for the reply slot. -/
def State.onScriptRecord (s : State) : State :=
  if s.replay.system = .starting ∧ s.replay.phase = .execute ∧ s.interpreterFree = true then s.runRecord else s

end Sys2Proof.Machine
end

