-- ==== Sys2Proof/Machine/System.lean ====
section
/-! DEFINITION. The three reset causes (R176, R177): POWER_ON_RESET, SUPPLY_VALID, RESET_N_LOW, RESET_N_RELEASE and
RESTART_EFFECT. Operation starts when neither cause holds the part any longer (log entry 4). -/

namespace Sys2Proof.Machine

/-- POWER_ON_RESET (R177): every block at its reset value, link counters included, and the part held. -/
def State.onPowerOnReset (s : State) : State := { s.resetBlocks false with powerOnHold := true }

/-- R177: operation starts if the part is no longer held. -/
def State.startIfReleased (s : State) (straps : Straps) (lines : Lines) : State :=
  if s.operating then s.startOperation false straps lines else s

/-- SUPPLY_VALID (R177): the end of power-on reset. -/
def State.onSupplyValid (s : State) (straps : Straps) (lines : Lines) : State :=
  if s.powerOnHold then { s with powerOnHold := false }.startIfReleased straps lines else s

/-- RESET_N_LOW (R177): a low level shorter than 10 microseconds is ignored. -/
def State.onResetNLow (s : State) (micros : Nat) : State :=
  if micros < Config.resetLowMicros then s else { s.resetBlocks false with resetNLow := true }

/-- RESET_N_RELEASE (R177): the end of a reset by RESET_N. -/
def State.onResetNRelease (s : State) (straps : Straps) (lines : Lines) : State :=
  if s.resetNLow then { s with resetNLow := false }.startIfReleased straps lines else s

/-- RESTART_EFFECT (R176, R177): once the reply to RESTART has left LTX; the link counters keep their values. -/
def State.onRestartEffect (s : State) (straps : Straps) (lines : Lines) : State :=
  if s.out.restart = .replyGone then s.startOperation true straps lines else s

end Sys2Proof.Machine
end

