-- ==== Sys2Proof/Machine/Steps.lean ====
section
/-! DEFINITION. The meaning of each step of the table: the effect its family gives it, on a part that is in operation and has
taken the expiries due (R125, R177). -/

namespace Sys2Proof.Machine

/-! ### The reset causes (R176, R177), which wait for nothing -/

/-- POWER_ON_RESET (R177). -/
def execPowerOnReset (s : State) : StepOutcome := .next s.onPowerOnReset
/-- SUPPLY_VALID (R177). -/
def execSupplyValid (straps : Straps) (lines : Lines) (s : State) : StepOutcome := .next (s.onSupplyValid straps lines)
/-- RESET_N_LOW (R177). -/
def execResetNLow (micros : Nat) (s : State) : StepOutcome := .next (s.onResetNLow micros)
/-- RESET_N_RELEASE (R177). -/
def execResetNRelease (straps : Straps) (lines : Lines) (s : State) : StepOutcome :=
  .next (s.onResetNRelease straps lines)
/-- RESTART_EFFECT (R176). -/
def execRestartEffect (straps : Straps) (lines : Lines) (s : State) : StepOutcome :=
  whenOperating s fun s => s.onRestartEffect straps lines

/-! ### The control link (R144, R149, R160 to R168) -/

/-- RECEIVE_CHARACTER (R157, R160). -/
def execReceiveCharacter (bits : List Bool) (stopHigh : Bool) (s : State) : StepOutcome :=
  whenOperating s fun s => s.onReceiveCharacter (characterOfBits bits) stopHigh
/-- COMMAND_FRAME (R164). -/
def execCommandFrame (s : State) : StepOutcome := whenOperating s State.onCommandFrame
/-- CRC_ERROR (R163). -/
def execCrcError (s : State) : StepOutcome := whenOperating s State.onCrcError
/-- BAD_FRAME (R163). -/
def execBadFrame (s : State) : StepOutcome := whenOperating s State.onBadFrame
/-- NOTICE_ACK (R149). -/
def execNoticeAck (s : State) : StepOutcome := whenOperating s State.onNoticeAck
/-- FRAME_END (R144). -/
def execFrameEnd (takingFirst : Bool) (s : State) : StepOutcome := whenOperating s fun s => s.onFrameEnd takingFirst
/-- DUPLICATE_COMMAND (R168). -/
def execDuplicateCommand (s : State) : StepOutcome := whenOperating s State.onDuplicateCommand
/-- UNKNOWN_KIND (R169). -/
def execUnknownKind (s : State) : StepOutcome := whenOperating s State.onUnknownKind

/-! ### The commands of the host (R169) -/

/-- PING (R172). -/
def execPing (s : State) : StepOutcome := whenOperating s (interpretPlain .ping settlePing)
/-- IDENTIFY (R173). -/
def execIdentify (s : State) : StepOutcome := whenOperating s (interpretPlain .identify settleIdentify)
/-- STATUS (R174). -/
def execStatus (s : State) : StepOutcome := whenOperating s (interpretPlain .status settleStatus)
/-- STATS (R175). -/
def execStats (s : State) : StepOutcome := whenOperating s (interpretPlain .stats settleStats)
/-- RESTART (R176). -/
def execRestart (s : State) : StepOutcome := whenOperating s (interpretPlain .restart settleRestart)
/-- ABORT_START (R187). -/
def execAbortStart (s : State) : StepOutcome := whenOperating s (interpretPlain .abortStart settleAbortStart)
/-- TGT_SET (R34). -/
def execTgtSet (s : State) : StepOutcome := whenOperating s (interpretPlain .tgtSet settleTgtSet)
/-- TGT_GET (R43). -/
def execTgtGet (s : State) : StepOutcome := whenOperating s (interpretPlain .tgtGet settleTgtGet)
/-- TGT_REMOVE (R40). -/
def execTgtRemove (s : State) : StepOutcome := whenOperating s (interpretPlain .tgtRemove settleTgtRemove)
/-- TGT_FENCE (R41). -/
def execTgtFence (s : State) : StepOutcome := whenOperating s (interpretPlain .tgtFence settleTgtFence)
/-- TGT_UNFENCE (R42). -/
def execTgtUnfence (s : State) : StepOutcome := whenOperating s (interpretPlain .tgtUnfence settleTgtUnfence)
/-- MEM_WRITE (R53). -/
def execMemWrite (s : State) : StepOutcome := whenOperating s (interpretPlain .memWrite settleMemWrite)
/-- MEM_READ (R54). -/
def execMemRead (s : State) : StepOutcome := whenOperating s (interpretPlain .memRead settleMemRead)
/-- CH_CONFIG (R7). -/
def execChConfig (s : State) : StepOutcome := whenOperating s (interpretPlain .chConfig settleChConfig)
/-- CH_LOAD (R8). -/
def execChLoad (s : State) : StepOutcome := whenOperating s (interpretPlain .chLoad settleChLoad)
/-- CH_CLEAR (R9). -/
def execChClear (s : State) : StepOutcome := whenOperating s (interpretPlain .chClear settleChClear)
/-- CH_START (R11). -/
def execChStart (s : State) : StepOutcome := whenOperating s (interpretPlain .chStart settleChStart)
/-- CH_STOP (R27). -/
def execChStop (s : State) : StepOutcome := whenOperating s (interpretPlain .chStop settleChStop)
/-- CH_ABORT (R28). -/
def execChAbort (s : State) : StepOutcome := whenOperating s (interpretPlain .chAbort settleChAbort)
/-- CH_RESUME (R24, R25, R26, R122). -/
def execChResume (s : State) : StepOutcome := whenOperating s (interpretPlain .chResume settleChResume)
/-- CH_GET (R10). -/
def execChGet (s : State) : StepOutcome := whenOperating s (interpretPlain .chGet settleChGet)
/-- PC_SET (R128). -/
def execPcSet (s : State) : StepOutcome := whenOperating s (interpretPlain .pcSet settlePcSet)
/-- PC_START (R129). -/
def execPcStart (s : State) : StepOutcome := whenOperating s (interpretPlain .pcStart settlePcStart)
/-- PC_STOP (R130). -/
def execPcStop (s : State) : StepOutcome := whenOperating s (interpretPlain .pcStop settlePcStop)
/-- PC_GET (R131). -/
def execPcGet (s : State) : StepOutcome := whenOperating s (interpretPlain .pcGet settlePcGet)
/-- PT_ENABLE (R109). -/
def execPtEnable (s : State) : StepOutcome := whenOperating s (interpretPlain .ptEnable settlePtEnable)
/-- PT_DISABLE (R110). -/
def execPtDisable (s : State) : StepOutcome := whenOperating s (interpretPlain .ptDisable settlePtDisable)
/-- PT_RESET (R111). -/
def execPtReset (s : State) : StepOutcome := whenOperating s (interpretPlain .ptReset settlePtReset)
/-- PT_GET (R112). -/
def execPtGet (s : State) : StepOutcome := whenOperating s (interpretPlain .ptGet settlePtGet)
/-- XFER_CANCEL (R70). -/
def execXferCancel (s : State) : StepOutcome := whenOperating s (interpretPlain .xferCancel settleXferCancel)
/-- XFER (R65 to R67). -/
def execXfer (s : State) : StepOutcome := whenOperating s State.onXfer

/-! ### Start-up (R181 to R185) -/

/-- HEADER_READ_DONE (R181). -/
def execHeaderReadDone (lines : Lines) (s : State) : StepOutcome := whenOperating s fun s => s.onHeaderReadDone lines
/-- BODY_PIECE_DONE (R182). -/
def execBodyPieceDone (lines : Lines) (s : State) : StepOutcome := whenOperating s fun s => s.onBodyPieceDone lines
/-- SCRIPT_RECORD (R184). -/
def execScriptRecord (s : State) : StepOutcome := whenOperating s State.onScriptRecord

/-! ### The tick and the expiries (R125) -/

/-- TIMEBASE_TICK (R125, R132). -/
def execTimebaseTick (s : State) (stretched : List Port := []) : StepOutcome :=
  whenOperating s fun s => s.onTimebaseTick stretched
/-- PACER_EXPIRY (R132, R133). -/
def execPacerExpiry (n : PacerIx) (s : State) : StepOutcome := whenDue s (.pacer n)
/-- PAUSE_EXPIRY (R18). -/
def execPauseExpiry (c : ChannelIx) (s : State) : StepOutcome := whenDue s (.pause c)
/-- PASS_GAP_END (R21). -/
def execPassGapEnd (c : ChannelIx) (s : State) : StepOutcome := whenDue s (.passGap c)
/-- GAP_EXPIRY (R161). -/
def execGapExpiry (s : State) : StepOutcome := whenDue s .linkGap
/-- RETRANSMIT_TIMER_EXPIRY (R147). -/
def execRetransmitTimerExpiry (number : Nat) (s : State) : StepOutcome := whenDue s (.retransmit number)
/-- STRETCH_TIMEOUT (R78). -/
def execStretchTimeout (p : Port) (s : State) : StepOutcome := whenDue s (.stretch p)
/-- STOP_CLOCK_WAIT_EXPIRY (R78). -/
def execStopClockWaitExpiry (p : Port) (s : State) : StepOutcome := whenDue s (.stopClockWait p)
/-- CYCLE_LIMIT_EXPIRY (R87). -/
def execCycleLimitExpiry (p : Port) (s : State) (startBegun : Bool := false) : StepOutcome :=
  whenDue s (.cycleLimit p startBegun)
/-- RETRY_GAP_END (R89). -/
def execRetryGapEnd (p : Port) (s : State) : StepOutcome := whenDue s (.retryGap p)
/-- RECOVERY_CLOCK_WAIT_EXPIRY (R102). -/
def execRecoveryClockWaitExpiry (p : Port) (s : State) : StepOutcome := whenDue s (.recoveryClockWait p)
/-- RECOVERY_GAP_END (R103). -/
def execRecoveryGapEnd (p : Port) (s : State) : StepOutcome := whenDue s (.recoveryGap p)

/-! ### Completions, announcements and grants (R19, R37, R39, R58, R69, R107) -/

/-- CHANNEL_COMPLETION (R19, R29). -/
def execChannelCompletion (c : ChannelIx) (s : State) : StepOutcome := whenOperating s fun s => s.onChannelCompletion c
/-- TARGET_ACCOUNTING (R37). -/
def execTargetAccounting (p : Port) (s : State) : StepOutcome := whenOperating s fun s => s.onTargetAccounting p
/-- SLOT_ANNOUNCEMENT (R39). -/
def execSlotAnnouncement (n : SlotIx) (order : List Party) (s : State) : StepOutcome :=
  whenOperating s fun s => s.onSlotAnnouncement n order
/-- PORT_ANNOUNCEMENT (R107). -/
def execPortAnnouncement (p : Port) (order : List Party) (s : State) : StepOutcome :=
  whenOperating s fun s => s.onPortAnnouncement p order
/-- TICKET_COMPLETION (R69). -/
def execTicketCompletion (number : Nat) (s : State) : StepOutcome := whenOperating s fun s => s.onTicketCompletion number
/-- GRANT_OCCASION (R58). -/
def execGrantOccasion (p : Port) (lines : Lines) (s : State) : StepOutcome :=
  whenOperating s fun s => s.onGrantOccasion p lines

/-! ### The bus (R76 to R93, R102) -/

/-- BYTE_COMPLETE (R76): a byte at a staging position that does not exist is a fault (log entry 26). -/
def execByteComplete (p : Port) (bits : List Bool) (ack : Bool) (s : State) : StepOutcome :=
  if s.operating && decide (s.settled.portState p = .busy) && s.settled.byteOutOfStaging p then
    .fault (.stagingOutOfRange p)
  else whenOperating s fun s => s.onByteComplete p (byteOfBits bits) ack
/-- BUS_CONDITION_FORMED (R76): a WATCH whose block leaves the 8192 bytes is a fault (log entry 26). -/
def execBusConditionFormed (p : Port) (lines : Lines) (s : State) : StepOutcome :=
  if s.operating && decide (s.settled.portState p = .busy) && s.settled.watchOutOfStaging p then
    .fault (.stagingOutOfRange p)
  else whenOperating s fun s => s.onBusConditionFormed p lines
/-- BUS_CONFLICT (R79). -/
def execBusConflict (p : Port) (s : State) : StepOutcome := whenOperating s fun s => s.onBusConflict p
/-- STRETCH_END (R78). -/
def execStretchEnd (p : Port) (s : State) : StepOutcome := whenOperating s fun s => s.onStretchEnd p
/-- CYCLE_POLL_ANSWER (R87). -/
def execCyclePollAnswer (p : Port) (ack : Bool) (s : State) : StepOutcome :=
  whenOperating s fun s => s.onCyclePollAnswer p ack
/-- ABORT_REQUEST (R92). DESIGN CHOICE (log entry 42): where a cycle limit is due, it is taken first and with the next poll's
START as begun, and startBegun no longer decides that. -/
def execAbortRequest (p : Port) (s : State) (startBegun : Bool := false) : StepOutcome :=
  whenOperating s fun s => s.onAbortRequest p startBegun
/-- CLOCK_WAIT_END (R102, R78). -/
def execClockWaitEnd (p : Port) (dataHigh : Bool) (s : State) : StepOutcome :=
  whenOperating s fun s => s.onClockWaitEnd p dataHigh
/-- RECOVERY_PULSE (R102). -/
def execRecoveryPulse (p : Port) (s : State) : StepOutcome := whenOperating s fun s => s.onRecoveryPulse p
/-- RECOVERY_ATTEMPT_END (R102). -/
def execRecoveryAttemptEnd (p : Port) (lines : Lines) (s : State) : StepOutcome :=
  whenOperating s fun s => s.onRecoveryAttemptEnd p lines

end Sys2Proof.Machine
end

