-- ==== Sys2Proof/Machine/Dispatch.lean ====
section
/-! DEFINITION. One arm per command of the block. -/

namespace Sys2Proof.Machine

def exec (i : Instr) (s : State) : Host.Outcome State Fault Refusal :=
  match i with
  | .powerOnReset => Sys2Proof.Machine.execPowerOnReset s
  | .resetNLow micros => Sys2Proof.Machine.execResetNLow micros s
  | .resetNRelease straps lines => Sys2Proof.Machine.execResetNRelease straps lines s
  | .restart => Sys2Proof.Machine.execRestart s
  | .restartEffect straps lines => Sys2Proof.Machine.execRestartEffect straps lines s
  | .receiveCharacter bits stopHigh => Sys2Proof.Machine.execReceiveCharacter bits stopHigh s
  | .gapExpiry => Sys2Proof.Machine.execGapExpiry s
  | .commandFrame => Sys2Proof.Machine.execCommandFrame s
  | .crcError => Sys2Proof.Machine.execCrcError s
  | .badFrame => Sys2Proof.Machine.execBadFrame s
  | .noticeAck => Sys2Proof.Machine.execNoticeAck s
  | .duplicateCommand => Sys2Proof.Machine.execDuplicateCommand s
  | .unknownKind => Sys2Proof.Machine.execUnknownKind s
  | .ping => Sys2Proof.Machine.execPing s
  | .identify => Sys2Proof.Machine.execIdentify s
  | .status => Sys2Proof.Machine.execStatus s
  | .stats => Sys2Proof.Machine.execStats s
  | .abortStart => Sys2Proof.Machine.execAbortStart s
  | .tgtSet => Sys2Proof.Machine.execTgtSet s
  | .tgtGet => Sys2Proof.Machine.execTgtGet s
  | .tgtRemove => Sys2Proof.Machine.execTgtRemove s
  | .tgtFence => Sys2Proof.Machine.execTgtFence s
  | .tgtUnfence => Sys2Proof.Machine.execTgtUnfence s
  | .memWrite => Sys2Proof.Machine.execMemWrite s
  | .memRead => Sys2Proof.Machine.execMemRead s
  | .chConfig => Sys2Proof.Machine.execChConfig s
  | .chLoad => Sys2Proof.Machine.execChLoad s
  | .chClear => Sys2Proof.Machine.execChClear s
  | .chStart => Sys2Proof.Machine.execChStart s
  | .chStop => Sys2Proof.Machine.execChStop s
  | .chAbort => Sys2Proof.Machine.execChAbort s
  | .chResume => Sys2Proof.Machine.execChResume s
  | .chGet => Sys2Proof.Machine.execChGet s
  | .pcSet => Sys2Proof.Machine.execPcSet s
  | .pcStart => Sys2Proof.Machine.execPcStart s
  | .pcStop => Sys2Proof.Machine.execPcStop s
  | .pcGet => Sys2Proof.Machine.execPcGet s
  | .ptEnable => Sys2Proof.Machine.execPtEnable s
  | .ptDisable => Sys2Proof.Machine.execPtDisable s
  | .ptReset => Sys2Proof.Machine.execPtReset s
  | .ptGet => Sys2Proof.Machine.execPtGet s
  | .xfer => Sys2Proof.Machine.execXfer s
  | .xferCancel => Sys2Proof.Machine.execXferCancel s
  | .headerReadDone lines => Sys2Proof.Machine.execHeaderReadDone lines s
  | .bodyPieceDone lines => Sys2Proof.Machine.execBodyPieceDone lines s
  | .scriptRecord => Sys2Proof.Machine.execScriptRecord s
  | .frameEnd takingFirst => Sys2Proof.Machine.execFrameEnd takingFirst s
  | .retransmitTimerExpiry number => Sys2Proof.Machine.execRetransmitTimerExpiry number s
  | .timebaseTick stretched => Sys2Proof.Machine.execTimebaseTick s stretched
  | .pacerExpiry pacer => Sys2Proof.Machine.execPacerExpiry pacer s
  | .pauseExpiry channel => Sys2Proof.Machine.execPauseExpiry channel s
  | .passGapEnd channel => Sys2Proof.Machine.execPassGapEnd channel s
  | .channelCompletion channel => Sys2Proof.Machine.execChannelCompletion channel s
  | .targetAccounting port => Sys2Proof.Machine.execTargetAccounting port s
  | .slotAnnouncement slot order => Sys2Proof.Machine.execSlotAnnouncement slot order s
  | .portAnnouncement port order => Sys2Proof.Machine.execPortAnnouncement port order s
  | .ticketCompletion number => Sys2Proof.Machine.execTicketCompletion number s
  | .grantOccasion port lines => Sys2Proof.Machine.execGrantOccasion port lines s
  | .byteComplete port bits ack => Sys2Proof.Machine.execByteComplete port bits ack s
  | .busConditionFormed port lines => Sys2Proof.Machine.execBusConditionFormed port lines s
  | .busConflict port => Sys2Proof.Machine.execBusConflict port s
  | .stretchEnd port => Sys2Proof.Machine.execStretchEnd port s
  | .stretchTimeout port => Sys2Proof.Machine.execStretchTimeout port s
  | .stopClockWaitExpiry port => Sys2Proof.Machine.execStopClockWaitExpiry port s
  | .cyclePollAnswer port ack => Sys2Proof.Machine.execCyclePollAnswer port ack s
  | .cycleLimitExpiry port startBegun => Sys2Proof.Machine.execCycleLimitExpiry port s startBegun
  | .retryGapEnd port => Sys2Proof.Machine.execRetryGapEnd port s
  | .abortRequest port startBegun => Sys2Proof.Machine.execAbortRequest port s startBegun
  | .recoveryClockWaitExpiry port => Sys2Proof.Machine.execRecoveryClockWaitExpiry port s
  | .recoveryAttemptEnd port lines => Sys2Proof.Machine.execRecoveryAttemptEnd port lines s
  | .recoveryGapEnd port => Sys2Proof.Machine.execRecoveryGapEnd port s
  | .supplyValid straps lines => Sys2Proof.Machine.execSupplyValid straps lines s
  | .recoveryPulse port => Sys2Proof.Machine.execRecoveryPulse port s
  | .clockWaitEnd port dataHigh => Sys2Proof.Machine.execClockWaitEnd port dataHigh s

end Sys2Proof.Machine
end

