-- ==== Sys2Proof/Safety.lean ====
section
/-! DEFINITION. What counts as a safe run, in the terms claims use: the invariants of the part, the taking of a command frame,
and the readings of the state that statements name. -/

namespace Sys2Proof.Machine

/-- A step is safe when it answers a next state. -/
def Safe (o : StepOutcome) : Prop := ∃ t, o = .next t

/-! ### A command frame taken (R168, R169) -/

/-- The interpreter takes frame f of this kind now, leaving rest in the inbox, and the frame reaches its owner: no expiry comes
before it (R125), it is no repeat, its kind is admitted, and its payload length lies within the bounds (R168, R169 steps 1
to 3). -/
structure Takes (s : State) (kind : CommandKind) (f : CommandFrame) (rest : List CommandFrame) : Prop where
  quiet : s.quiet = true
  inbox : s.link.inbox = f :: rest
  free : s.canTakeFrame = true
  kindCode : commandKindOf f.kind.toNat = some kind
  fresh : s.isRepeat f = false
  admitted : s.replay.system = .ready ∨ kind.admittedAtStart = true
  length : kind.lengthFits f.payload = true

/-- The step that takes a command of a kind from the inbox. -/
def CommandKind.step : CommandKind → Instr
  | .ping => .ping
  | .identify => .identify
  | .status => .status
  | .stats => .stats
  | .restart => .restart
  | .abortStart => .abortStart
  | .tgtSet => .tgtSet
  | .tgtGet => .tgtGet
  | .tgtRemove => .tgtRemove
  | .tgtFence => .tgtFence
  | .tgtUnfence => .tgtUnfence
  | .memWrite => .memWrite
  | .memRead => .memRead
  | .chConfig => .chConfig
  | .chLoad => .chLoad
  | .chClear => .chClear
  | .chStart => .chStart
  | .chStop => .chStop
  | .chAbort => .chAbort
  | .chResume => .chResume
  | .chGet => .chGet
  | .pcSet => .pcSet
  | .pcStart => .pcStart
  | .pcStop => .pcStop
  | .pcGet => .pcGet
  | .ptEnable => .ptEnable
  | .ptDisable => .ptDisable
  | .ptReset => .ptReset
  | .ptGet => .ptGet
  | .xfer => .xfer
  | .xferCancel => .xferCancel

/-- The step that takes an expiry. -/
def Expiry.step : Expiry → Instr
  | .pacer n => .pacerExpiry n
  | .pause c => .pauseExpiry c
  | .passGap c => .passGapEnd c
  | .linkGap => .gapExpiry
  | .retransmit number => .retransmitTimerExpiry number
  | .stretch p => .stretchTimeout p
  | .stopClockWait p => .stopClockWaitExpiry p
  | .cycleLimit p startBegun => .cycleLimitExpiry p startBegun
  | .retryGap p => .retryGapEnd p
  | .recoveryClockWait p => .recoveryClockWaitExpiry p
  | .recoveryGap p => .recoveryGapEnd p

/-- The steps of the reset causes that take effect on a held part as well (R177). -/
def isResetCause : Instr → Prop
  | .powerOnReset | .resetNLow _ | .resetNRelease _ _ | .supplyValid _ _ => True
  | _ => False

/-- The command of the frame is refused: only link, interpreter and sending side take part (R169). -/
def Refuses (c : Instr) (s : State) (f : CommandFrame) (rest : List CommandFrame) (st : Status) : Prop :=
  exec c s = .next ((s.takeOldest rest).answer f st [])

/-- One of the three causes starts operation now (R177): c is the step that ends it; keepLink: the link counters keep their
values. -/
inductive Starts (s : State) (straps : Straps) (lines : Lines) : Instr → Bool → Prop where
  | supply : s.powerOnHold = true → s.resetNLow = false → Starts s straps lines (.supplyValid straps lines) false
  | release : s.resetNLow = true → s.powerOnHold = false → Starts s straps lines (.resetNRelease straps lines) false
  | restart : s.quiet = true → s.out.restart = .replyGone →
      Starts s straps lines (.restartEffect straps lines) true

/-! ### Invariants -/

/-- R6, R45: a transfer has a length and stays inside the 8192 bytes. -/
structure Transfer.Fits (t : Transfer) : Prop where
  length : 1 ≤ t.length
  inside : t.position + t.span ≤ Config.stagingBytes

def Descriptor.Fits : Descriptor → Prop
  | .transfer t => t.Fits
  | .pause _ => True

/-- Every listed address is below a limit. -/
def Memory.Below (m : Memory) (limit : Nat) : Prop := ∀ cell ∈ m, cell.1 < limit

/-- R45, R6: staging memory is in canonical form inside positions 0 to 8191; every loaded descriptor, every ticket and every
transaction of an arbiter stays inside it; a boot memory read is a READ (R180). -/
structure StagingOk (s : State) : Prop where
  canonical : s.staging.wf = true
  below : s.staging.Below Config.stagingBytes
  rings : ∀ c, ∀ d ∈ (s.channel c).ring, d.Fits
  tickets : ∀ t ∈ s.tickets, t.transfer.Fits
  transactions : ∀ p t, (s.engine p).transaction = some t → t.owner ≠ .replay → t.transfer.Fits
  boot : ∀ p t, (s.engine p).transaction = some t → t.owner = .replay → t.transfer.op = .read

/-- R50: no two busy ranges of different ports conflict. -/
def BusyOk (s : State) : Prop :=
  ∀ p q r1 r2, p ≠ q → s.busy.get p = some r1 → s.busy.get q = some r2 → r1.conflicts r2 = false

/-- R4, R1: free entries and the entries of the eight rings make up the 128 of the pool; no ring holds more than 32. -/
structure PoolOk (s : State) : Prop where
  total : s.poolFree + (allChannels.map (fun c => (s.channel c).ring.length)).sum = Config.poolEntries
  rings : ∀ c, (s.channel c).ring.length ≤ Config.ringMax

/-- R63: at most 4 tickets, no two with the same number. -/
structure TicketsOk (s : State) : Prop where
  room : s.tickets.length ≤ Config.ticketMax
  distinct : (s.tickets.map (·.number)).Nodup

/-- R31, R32: a slot's definition is valid; ONLINE has count 0, SUSPECT a count from 1 to below the threshold, and no count
passes the threshold. -/
structure TargetOk (t : Target) : Prop where
  valid : t.defn.valid = true
  bounded : t.count ≤ t.defn.fenceThreshold
  online : t.standing = .online → t.count = 0
  suspect : t.standing = .suspect → 1 ≤ t.count ∧ t.count < t.defn.fenceThreshold

/-- R31, R32, R35: every slot is as R32 says, and no two slots that are not VACANT share a port and bus address. -/
structure TargetsOk (s : State) : Prop where
  each : ∀ n t, (s.slot n).target = some t → TargetOk t
  distinct : ∀ n m t u, n ≠ m → (s.slot n).target = some t → (s.slot m).target = some u →
    ¬(t.defn.port = u.defn.port ∧ t.defn.address = u.defn.address)

/-- R126: the period is 1 to 65535; a RUNNING pacer has 1 to 65536 ticks to come, a STOPPED one 0, and only a RUNNING one an
expiry to be taken. -/
structure PacerOk (pc : Pacer) : Prop where
  period : 1 ≤ pc.period ∧ pc.period ≤ 65535
  running : pc.running = true → 1 ≤ pc.remaining ∧ pc.remaining ≤ 65536
  stopped : pc.running = false → pc.remaining = 0 ∧ pc.expiring = false

/-- R135 to R137, R154, R155: at most 24 notices held and 4 in the window, no two with the same number, ATTN_N low exactly
while an ALARM is held, and created = acknowledged + held + discarded + merged. -/
structure NoticesOk (q : NoticeQueue) : Prop where
  room : q.held.length ≤ Config.noticeMax
  window : windowCount q.held ≤ Config.windowMax
  distinct : (q.held.map (·.number)).Nodup
  attention : q.attnLow = attnLevel q.held
  balance : q.counters.created =
    q.counters.acknowledged + BitVec.ofNat 32 q.held.length + q.counters.discarded + q.counters.merged

/-- R73, R74, R75, R100: a BUSY engine has a transaction and a phase, an IDLE, FAILED or DISABLED one no transaction, and
RECOVERING is exactly while a recovery is under way. -/
structure EngineOk (e : Engine) : Prop where
  busy : e.portState = .busy → e.transaction ≠ none ∧ e.activity ≠ .none
  free : e.portState = .idle ∨ e.portState = .failed ∨ e.portState = .disabled → e.transaction = none
  recovering : e.portState = .recovering ↔ e.recovery ≠ none

/-- R82 to R86: the byte that a BUSY engine is at is one of its transfer's bytes, and the segment in progress of a memory write
lies within the write; nothing is confirmed of a transaction pending on a recovery. -/
structure FlightOk (e : Engine) : Prop where
  pending : ∀ t, e.transaction = some t → e.portState = .recovering → e.confirmed = 0
  page : ∀ t, e.transaction = some t → t.segmented = true → 1 ≤ t.defn.pageSize
  segment : ∀ t, e.transaction = some t → e.portState = .busy → t.segmented = true →
    ∃ sg, e.segment = some sg ∧ 1 ≤ sg.length ∧ e.confirmed + sg.length ≤ t.transfer.length
  sent : ∀ t k, e.transaction = some t → t.owner ≠ .replay → e.portState = .busy → e.activity = .dataOut k →
    k < e.dataOutLength t
  received : ∀ t k, e.transaction = some t → t.owner ≠ .replay → e.portState = .busy → e.activity = .dataIn k →
    k < t.transfer.length

/-- R1, R13, R18, R27: a channel that is OFF, PACED or HALTED has no head in service; a STOPPING channel has its head on a
port; a channel has a halt reason exactly while it is HALTED, and held pass end only with a watch hold. -/
structure ChannelOk (ch : Channel) : Prop where
  quiet : ch.state = .off ∨ ch.state = .paced ∨ ch.state = .halted → ch.head = .none
  stopping : ch.state = .stopping → ∃ p, ch.head = .onPort p
  halted : ch.state = .halted ↔ ch.haltReason ≠ none
  held : ch.heldPassEnd = true → ch.haltReason = some .watchHold

/-- R178, R188: while the system is READY the replay phase is NONE and no abort of the start-up is requested. -/
def ReplayOk (r : Replay) : Prop := r.system = .ready → r.phase = .none ∧ r.abortRequested = false

/-- What every step keeps. -/
structure Ok (s : State) : Prop where
  staging : StagingOk s
  busy : BusyOk s
  pool : PoolOk s
  tickets : TicketsOk s
  targets : TargetsOk s
  pacers : ∀ n, PacerOk (s.pacer n)
  notices : NoticesOk s.out.notices
  engines : ∀ p, EngineOk (s.engine p)
  flights : ∀ p, FlightOk (s.engine p)
  channels : ∀ c, ChannelOk (s.channel c)
  replay : ReplayOk s.replay

end Sys2Proof.Machine
end

