-- ==== Sys2Proof/Certificates/Slice0/Obligations.lean ====
section
/-! DEFINITION. The statements for the provers. A next state is written as the state it changes, so that everything not
written is unchanged: that is the frame of the command. -/

section Statements

open Sys2Proof Sys2Proof.Machine

/-! ### The queue of commands -/

/-- A step takes the command at the front of the queue and runs it on the state with the rest. On an empty queue the block
idles (the model's choice, log entry 7). -/
def Obligations.StepTakesTheFront : Prop :=
  (∀ (c : Instr) (rest : List Instr) (s : State),
    step { s with pending := c :: rest } = exec c { s with pending := rest })
  ∧ ∀ s : State, s.pending = [] → step s = .next s

/-! ### Reset and the start of operation (R177, R179) -/

/-- The value of every block after reset, by the tables of R1, R31, R45, R49, R56, R63, R73, R100, R126, R136, R155, R165,
R166, R168 and R178. -/
def Obligations.ResetValues : Prop :=
  (∀ c, State.reset.channel c =
    { state := .off, priority := .normal, mode := .once, pacer := none, policy := .halt,
      wants := { half := false, pass := false, fail := true, overrun := false }, ring := [], position := 0,
      doneInPass := 0, head := .none, haltReason := none, heldPassEnd := false, passCount := 0, overrunCount := 0,
      failureCount := 0, lastResult := none, pauseTimer := none, passGap := none, arriving := none })
  ∧ State.reset.poolFree = 128
  ∧ (∀ n, State.reset.slot n = { target := none, inFlight := false })
  ∧ (∀ a, State.reset.staging.read a = 0) ∧ State.reset.staging.wf = true
  ∧ State.reset.tickets = [] ∧ State.reset.nextTicket = 0
  ∧ (∀ p, State.reset.busy.get p = none ∧ (State.reset.arbiter p).grant = none
    ∧ State.reset.candidateHeads p = [] ∧ State.reset.candidateTickets p = []
    ∧ State.reset.portState p = .idle ∧ (State.reset.engine p).phase = .none
    ∧ (State.reset.engine p).transaction = none ∧ (State.reset.engine p).attempts = 0
    ∧ (State.reset.engine p).segment = none ∧ (State.reset.engine p).confirmed = 0
    ∧ (State.reset.engine p).abortRequested = false ∧ (State.reset.engine p).scratch = List.replicate 16 0
    ∧ (State.reset.engine p).record = none ∧ (State.reset.engine p).transactions = 0
    ∧ (State.reset.engine p).failures = 0 ∧ (State.reset.engine p).recoveries = 0
    ∧ (State.reset.engine p).recovery = none ∧ (State.reset.engine p).recoveryAttempt = 0
    ∧ (State.reset.engine p).ptResetRequested = false)
  ∧ (∀ n, State.reset.pacer n =
    { running := false, period := 1000, mode := .repeat_, remaining := 0, expiryCount := 0, expiring := false })
  ∧ State.reset.out.notices.held = [] ∧ State.reset.out.notices.nextNumber = 0
  ∧ State.reset.out.notices.muted = false ∧ State.reset.out.notices.attnLow = false
  ∧ State.reset.out.notices.counters =
    { created := 0, merged := 0, discarded := 0, acknowledged := 0, retransmissions := 0, muteEntries := 0,
      strayAcks := 0 }
  ∧ State.reset.out.reply = .empty ∧ State.reset.out.sending = none
  ∧ State.reset.interp = { cache := none, executing := false }
  ∧ State.reset.link = { deframer := .hunt, gapTimer := none, received := [], inbox := [],
                         counters := { commandFrames := 0, acknowledgements := 0, gapDiscards := 0, badFrames := 0,
                                       crcErrors := 0, inboxOverruns := 0, duplicates := 0 } }
  ∧ State.reset.replay.phase = .none ∧ State.reset.replay.abortRequested = false
  ∧ State.reset.replay.scriptLength = 0 ∧ State.reset.replay.bytesRead = 0 ∧ State.reset.replay.pointer = 8
  ∧ State.reset.replay.index = 1 ∧ State.reset.replay.executed = 0 ∧ State.reset.replay.buffer = []

/-- POWER_ON_RESET and a low RESET_N of at least 10 microseconds put every block at its reset value and hold the part, link
counters included; a shorter low is ignored; and while it is held the part takes no event but those that end the hold. The
sampled straps stay as they were. That the system state of the held part is STARTING is the model's choice (log entry 3), and
that each of the two causes leaves a hold of the other in place, so that the part stays held until both have ended, is the
model's reading (DEDUCED, log entry 4). -/
def Obligations.ResetHoldsThePart : Prop :=
  (∀ s : State, exec .powerOnReset s =
    .next { State.reset with pending := s.pending, straps := s.straps, resetNLow := s.resetNLow })
  ∧ (∀ (s : State) (micros : Nat), 10 ≤ micros → exec (.resetNLow micros) s =
    .next { State.reset with pending := s.pending, straps := s.straps, powerOnHold := s.powerOnHold,
                             resetNLow := true })
  ∧ (∀ (s : State) (micros : Nat), micros < 10 → exec (.resetNLow micros) s = .next s)
  ∧ ∀ (c : Instr) (s : State), s.operating = false → c ≠ .powerOnReset → (∀ m, c ≠ .resetNLow m) →
    (∀ st ln, c ≠ .resetNRelease st ln) → (∀ st ln, c ≠ .supplyValid st ln) → exec c s = .next s

/-- SUPPLY_VALID, RESET_N_RELEASE and RESTART_EFFECT with BOOT_EN low: every block is at its reset value, the link counters
are kept by RESTART alone, the straps are those sampled, the system is READY, and a START_REPORT with outcome SKIPPED is the
notice with number 0, the one notice created. That it is in WINDOW with one transmission, and its frame on the link, in the
very step that stores it is the model's choice (log entry 40: the idle transmitter chooses in that step). -/
def Obligations.StartWithoutScript : Prop :=
  ∀ (c : Instr) (s : State) (straps : Straps) (lines : Lines) (keepLink : Bool),
    Starts s straps lines c keepLink → straps.bootEn = false →
    ∃ t, exec c s = .next t
      ∧ t.operating = true ∧ t.straps = straps ∧ t.pending = s.pending
      ∧ t.replay = { Replay.atReset with system := .ready }
      ∧ t.out.notices =
        { held :=
            [{ number := 0, kind := .startReport .skipped 0 0 .ok, merges := 0, transmissions := 1, inWindow := true,
               timer := .none }]
          nextNumber := 1, muted := false, attnLow := false
          counters := { created := 1, merged := 0, discarded := 0, acknowledged := 0, retransmissions := 0,
                        muteEntries := 0, strayAcks := 0 } }
      ∧ t.out.sending = some
        { source := .notice 0, bytes := frameBytes [0x03, 0, 0x04, 2, 0, 1, 0, 0, 1, 0, 0, 0, 0, 0] }
      ∧ t.out.reply = .empty ∧ t.out.restart = .none ∧ t.out.takingNext = false ∧ t.interp = Interpreter.atReset
      ∧ t.link = { Link.atReset with counters := if keepLink then s.link.counters else LinkCounters.atReset }
      ∧ t.channels = State.reset.channels ∧ t.poolFree = 128 ∧ t.slots = State.reset.slots ∧ t.slotNews = []
      ∧ t.staging = [] ∧ t.busy = State.reset.busy ∧ t.tickets = [] ∧ t.nextTicket = 0
      ∧ t.arbiters = State.reset.arbiters ∧ t.engines = State.reset.engines ∧ t.portNews = State.reset.portNews
      ∧ t.pacers = State.reset.pacers

/-- The same three steps with BOOT_EN high: the system is STARTING in phase HEADER, and port A has the header read: BUSY in
its first attempt when both lines are high, else RECOVERING with the read pending and no attempt made; port A has announced
the states it entered. Every other block is at its reset value. The header read is a READ of 8 bytes from offset 0 of the boot
memory into buffer positions 0 to 7, with the definition of R180 (the fields that R180 does not give are the model's choice,
log entry 30). -/
def Obligations.StartReadsTheHeader : Prop :=
  ∀ (c : Instr) (s : State) (straps : Straps) (lines : Lines) (keepLink : Bool),
    Starts s straps lines c keepLink → straps.bootEn = true →
    ∃ t, exec c s = .next t
      ∧ t.operating = true ∧ t.straps = straps ∧ t.pending = s.pending
      ∧ t.replay = { Replay.atReset with system := .starting, phase := .header }
      ∧ (t.engine .a).transaction = some
        { owner := .replay, index := 0
          transfer := { op := .read, slot := 0, offset := 0, length := 8, position := 0 }
          defn :=
            { port := .a, address := 0x50, kind := .memory, offsetWidth := 2, extent := 0, pageSize := 0, speed := .khz100
              stretchLimit := 10, cycleLimit := 0, retries := 0, fenceThreshold := 0 } }
      ∧ (let pending := { Engine.atReset with transaction := (t.engine .a).transaction }
        (lines.bothHigh = true → (t.engine .a).phase = .start
          ∧ t.engine .a = { pending with portState := .busy, activity := .formStart, attempts := 1 }
          ∧ t.portNews = State.reset.portNews.set .a [.busy])
        ∧ (lines.bothHigh = false → (t.engine .a).recoveryAttempt = 1
          ∧ t.engine .a = { pending with
            portState := .recovering, waitTimer := some 2
            recovery := some { attempt := 1, pulses := 0, step := .clockWait } }
          ∧ t.portNews = State.reset.portNews.set .a [.busy, .recovering]))
      ∧ (∀ p, p ≠ .a → t.engine p = Engine.atReset)
      ∧ t.link = { Link.atReset with counters := if keepLink then s.link.counters else LinkCounters.atReset }
      ∧ t.out = Outbound.atReset ∧ t.interp = Interpreter.atReset
      ∧ t.channels = State.reset.channels ∧ t.poolFree = 128 ∧ t.slots = State.reset.slots ∧ t.slotNews = []
      ∧ t.staging = [] ∧ t.busy = State.reset.busy ∧ t.tickets = [] ∧ t.nextTicket = 0
      ∧ t.arbiters = State.reset.arbiters ∧ t.pacers = State.reset.pacers

/-! ### Receiving (R160 to R165) -/

/-- The line and RECEIVE_CHARACTER. A character's eight data bits come least significant first, after a low start bit and
before a high stop bit; LTX carries the characters of the frame being sent with no gap between them, and is high while none is
sent (levels as views of the state: log entry 29); the straps set the rate. The deframer's course through HUNT, LENGTH, BODY,
CRC_LOW and CRC_HIGH, with a new gap interval of 5 ms after every character of a frame; a length outside 3 to 250 and a low
stop bit inside a frame discard it and count a bad frame. Only the link changes. -/
def Obligations.CharacterReceived : Prop :=
  let dataBits := fun char : Byte => (List.range 8).map (fun i => char.getLsbD i)
  (∀ bits : List Bool, bits.length = 8 → ∃ char, bits = dataBits char)
  ∧ (∀ s : State, s.out.sending = none → s.ltx = [true])
  ∧ (∀ (s : State) (x : Sending), s.out.sending = some x →
    s.ltx = x.bytes.flatMap (fun char => [false] ++ dataBits char ++ [true]))
  ∧ (∀ s : State, s.linkRate =
    if s.straps.baud1 then (if s.straps.baud0 then 3000000 else 1000000)
    else if s.straps.baud0 then 460800 else 115200)
  ∧ ∀ (s : State) (char : Byte) (bits : List Bool), s.quiet = true → bits = dataBits char →
    (s.link.deframer = .hunt → exec (.receiveCharacter bits true) s =
      .next (if char = 0xC5 then { s with link := { s.link with deframer := .length, gapTimer := some 6 } } else s))
    ∧ (s.link.deframer = .length → 3 ≤ char.toNat → char.toNat ≤ 250 → exec (.receiveCharacter bits true) s =
      .next { s with link := { s.link with deframer := .body char.toNat [], gapTimer := some 6 } })
    ∧ (s.link.deframer = .length → char.toNat < 3 ∨ 250 < char.toNat → exec (.receiveCharacter bits true) s =
      .next { s with
        link := { s.link with
          deframer := .hunt, gapTimer := none
          counters := { s.link.counters with badFrames := min (s.link.counters.badFrames + 1) 65535 } } })
    ∧ (∀ len got, s.link.deframer = .body len got → exec (.receiveCharacter bits true) s =
      .next { s with
        link := { s.link with
          deframer := if got.length + 1 < len then .body len (got ++ [char]) else .crcLow (got ++ [char])
          gapTimer := some 6 } })
    ∧ (∀ got, s.link.deframer = .crcLow got → exec (.receiveCharacter bits true) s =
      .next { s with link := { s.link with deframer := .crcHigh got char, gapTimer := some 6 } })
    ∧ (∀ got low, s.link.deframer = .crcHigh got low → exec (.receiveCharacter bits true) s =
      .next { s with
        link := { s.link with
          deframer := .hunt, gapTimer := none
          received := s.link.received ++ [{ body := got, crc := char ++ low }] } })
    ∧ (s.link.deframer = .hunt → exec (.receiveCharacter bits false) s = .next s)
    ∧ (s.link.deframer ≠ .hunt → exec (.receiveCharacter bits false) s =
      .next { s with
        link := { s.link with
          deframer := .hunt, gapTimer := none
          counters := { s.link.counters with badFrames := min (s.link.counters.badFrames + 1) 65535 } } })

/-- The check of a complete frame: its CRC, over length byte and body, then its class, and the length of a NOTICE_ACK.
GAP_EXPIRY inside a frame returns the deframer to HUNT and counts a gap discard; a complete frame with a wrong CRC counts a
CRC error, and one with a right CRC that is neither a COMMAND nor a NOTICE_ACK of body length 3 counts a bad frame. -/
def Obligations.FrameDiscarded : Prop :=
  (∀ f : RxFrame, f.check =
    if crc16 (BitVec.ofNat 8 f.body.length :: f.body) ≠ f.crc then .crcError
    else if at1 f.body 0 = 0x01 then .command
    else if at1 f.body 0 = 0x04 ∧ f.body.length = 3 then .noticeAck else .badFrame)
  ∧ (∀ s : State, s.operating = true → s.link.gapTimer = some 0 → s.link.deframer ≠ .hunt → exec .gapExpiry s =
    .next { s with
      link := { s.link with
        deframer := .hunt, gapTimer := none
        counters := { s.link.counters with gapDiscards := min (s.link.counters.gapDiscards + 1) 65535 } } })
  ∧ (∀ (s : State) (f : RxFrame) (rest : List RxFrame), s.quiet = true → s.link.received = f :: rest →
    crc16 (BitVec.ofNat 8 f.body.length :: f.body) ≠ f.crc → exec .crcError s =
    .next { s with
      link := { s.link with
        received := rest
        counters := { s.link.counters with crcErrors := min (s.link.counters.crcErrors + 1) 65535 } } })
  ∧ ∀ (s : State) (f : RxFrame) (rest : List RxFrame), s.quiet = true → s.link.received = f :: rest →
    crc16 (BitVec.ofNat 8 f.body.length :: f.body) = f.crc → at1 f.body 0 ≠ 0x01 →
    ¬(at1 f.body 0 = 0x04 ∧ f.body.length = 3) → exec .badFrame s =
    .next { s with
      link := { s.link with
        received := rest
        counters := { s.link.counters with badFrames := min (s.link.counters.badFrames + 1) 65535 } } }

/-- COMMAND_FRAME while the link is OPEN: the frame is counted and appended to an inbox that holds fewer than 4 frames; at 4
it is dropped, the inbox overruns count increases and INBOX_OVERFLOW is claimed with the count after the increase. -/
def Obligations.CommandFrameOffered : Prop :=
  ∀ (s : State) (f : RxFrame) (rest : List RxFrame), s.quiet = true → s.link.received = f :: rest →
    f.check = .command → s.out.notices.muted = false →
    (s.link.inbox.length < 4 → exec .commandFrame s =
      .next { s with
        link := { s.link with
          received := rest
          inbox := s.link.inbox ++
            [{ tag := f.body.getD 1 0, kind := f.body.getD 2 0, payload := f.body.drop 3, crc := f.crc }]
          counters := { s.link.counters with commandFrames := min (s.link.counters.commandFrames + 1) 65535 } } })
    ∧ (4 ≤ s.link.inbox.length → exec .commandFrame s =
      .next { s with
        link := { s.link with
          received := rest
          counters := { s.link.counters with
            commandFrames := min (s.link.counters.commandFrames + 1) 65535
            inboxOverruns := min (s.link.counters.inboxOverruns + 1) 65535 } }
        out := s.out.claim (.inboxOverflow (min (s.link.counters.inboxOverruns + 1) 65535)) })

/-- NOTICE_ACK while the link is OPEN: the WINDOW notice with the number is removed, the acknowledged counter increases and
ATTN_N is low exactly if an ALARM is still held; with no such WINDOW notice only the stray count increases; then the
transmitter may choose. -/
def Obligations.NoticeAcknowledged : Prop :=
  ∀ (s : State) (f : RxFrame) (rest : List RxFrame), s.quiet = true → s.link.received = f :: rest →
    f.check = .noticeAck → s.out.notices.muted = false →
    ((∃ n ∈ s.out.notices.held, n.inWindow = true ∧ n.number = at1 f.body 1) → exec .noticeAck s =
      .next { s with
        link := { s.link with
          received := rest
          counters := { s.link.counters with acknowledgements := min (s.link.counters.acknowledgements + 1) 65535 } }
        out := ({ s.out with
          notices := { s.out.notices with
            held := s.out.notices.held.eraseP (fun n => n.inWindow && n.number == at1 f.body 1)
            attnLow := attnLevel (s.out.notices.held.eraseP (fun n => n.inWindow && n.number == at1 f.body 1))
            counters := { s.out.notices.counters with
              acknowledged := s.out.notices.counters.acknowledged + 1 } } } : Outbound).choose })
    ∧ (¬(∃ n ∈ s.out.notices.held, n.inWindow = true ∧ n.number = at1 f.body 1) → exec .noticeAck s =
      .next { s with
        link := { s.link with
          received := rest
          counters := { s.link.counters with acknowledgements := min (s.link.counters.acknowledgements + 1) 65535 } }
        out := ({ s.out with
          notices := { s.out.notices with
            counters := { s.out.notices.counters with
              strayAcks := s.out.notices.counters.strayAcks + 1 } } } : Outbound).choose })

/-- In MUTE an accepted COMMAND frame, whether the inbox has room for it or drops it, and an accepted NOTICE_ACK, after its
retirement, end MUTE: every WINDOW notice still held has its transmissions set to 0 and becomes due, and the transmitter may
choose; the frame dropped then claims INBOX_OVERFLOW. The frame is counted and appended or dropped, and the acknowledgement
counted, as on an OPEN link, and nothing else changes. That the choice of an idle transmitter is made in the same step is log
entry 39. -/
def Obligations.AcceptedFrameEndsMute : Prop :=
  ∀ (s : State) (f : RxFrame) (rest : List RxFrame), s.quiet = true → s.link.received = f :: rest →
    s.out.notices.muted = true →
    let acknowledged := fun (q : NoticeQueue) (number : Nat) =>
      if q.held.any (fun n => n.inWindow && n.number == number) then
        let held := q.held.eraseP (fun n => n.inWindow && n.number == number)
        { q with
          held := held, attnLow := attnLevel held
          counters := { q.counters with acknowledged := q.counters.acknowledged + 1 } }
      else { q with counters := { q.counters with strayAcks := q.counters.strayAcks + 1 } }
    let heard := fun (q : NoticeQueue) =>
      ({ s.out with
        notices := { q with
          muted := false
          held := q.held.map (fun n => if n.inWindow then { n with transmissions := 0, timer := .due } else n) } } :
        Outbound).choose
    (f.check = .command → s.link.inbox.length < 4 →
      exec .commandFrame s = .next { s with
        link := { s.link with
          received := rest
          inbox := s.link.inbox ++
            [{ tag := f.body.getD 1 0, kind := f.body.getD 2 0, payload := f.body.drop 3, crc := f.crc }]
          counters := { s.link.counters with commandFrames := min (s.link.counters.commandFrames + 1) 65535 } }
        out := heard s.out.notices })
    ∧ (f.check = .command → 4 ≤ s.link.inbox.length →
      exec .commandFrame s = .next { s with
        link := { s.link with
          received := rest
          counters := { s.link.counters with
            commandFrames := min (s.link.counters.commandFrames + 1) 65535
            inboxOverruns := min (s.link.counters.inboxOverruns + 1) 65535 } }
        out := (heard s.out.notices).claim (.inboxOverflow (min (s.link.counters.inboxOverruns + 1) 65535)) })
    ∧ (f.check = .noticeAck → exec .noticeAck s = .next { s with
        link := { s.link with
          received := rest
          counters := { s.link.counters with acknowledgements := min (s.link.counters.acknowledgements + 1) 65535 } }
        out := heard (acknowledged s.out.notices (at1 f.body 1)) })

/-! ### The taking of a command (R168 to R171) -/

/-- A frame taken leaves the inbox, its execution begins, and nothing else changes. A reply placed in the slot is sent at once
by an idle transmitter, and waits PENDING while a frame is being sent and, with an idle transmitter too, once the reply to
RESTART has gone; that no choice waits for the interpreter any longer is the model's choice (log entry 21). It is written into
the cache with the frame's tag and CRC, and nothing else changes. Its frame carries class REPLY, tag and kind of its command,
the code of its status and its fields; a frame is the start byte, the length byte, the body and the CRC-16 of length and body,
low byte first. The CRC starts at 0xFFFF and takes each byte's bits from the most significant. -/
def Obligations.ReplyPlaced : Prop :=
  (∀ (s : State) (rest : List CommandFrame), s.takeOldest rest =
    { s with link := { s.link with inbox := rest }, interp := { s.interp with executing := true } })
  ∧ (∀ (s : State) (f : CommandFrame) (st : Status) (fields : List Byte), s.answer f st fields =
    { s with
      interp := { cache := some { tag := f.tag, crc := f.crc,
                                  reply := { tag := f.tag, kind := f.kind, status := st, fields := fields } }
                  executing := false }
      out := s.out.placeReply { tag := f.tag, kind := f.kind, status := st, fields := fields } })
  ∧ (∀ (o : Outbound) (r : Reply),
    (o.sending = none → o.restart ≠ .replyGone → o.placeReply r =
      { o with reply := .sending r, sending := some { source := .reply, bytes := r.frame }, takingNext := false })
    ∧ (o.sending ≠ none → o.placeReply r = { o with reply := .pending r, takingNext := false })
    ∧ (o.restart = .replyGone → o.placeReply r = { o with reply := .pending r, takingNext := false }))
  ∧ (∀ r : Reply, r.frame = frameBytes ([0x02, r.tag, r.kind, BitVec.ofNat 8 r.status.code] ++ r.fields))
  ∧ (∀ body : List Byte,
    let crc := crc16 (BitVec.ofNat 8 body.length :: body)
    frameBytes body =
      [0xC5, BitVec.ofNat 8 body.length] ++ body ++ [BitVec.ofNat 8 crc.toNat, BitVec.ofNat 8 (crc.toNat / 256)])
  ∧ crc16 [] = 0xFFFF
  ∧ (∀ (bytes : List Byte) (b : Byte), crc16 (bytes ++ [b]) =
    [7, 6, 5, 4, 3, 2, 1, 0].foldl
      (fun (crc : Crc) (i : Nat) => if crc.getLsbD 15 = b.getLsbD i then crc <<< 1 else (crc <<< 1) ^^^ 0x1021)
      (crc16 bytes))
  ∧ [Status.ok, .unknownKind, .badLength, .badValue, .wrongState, .noRoom, .busy, .busyStarting, .busyRange, .range,
      .duplicate, .noTarget].map Status.code = [0, 1, 2, 3, 4, 5, 6, 7, 8, 9, 10, 11]

/-- A frame is taken while no command is executed, the reply slot is EMPTY and RESTART has not been executed. One whose tag
and CRC are the cached ones is a repeat and is not executed: the cached reply is placed unchanged, the duplicates count
increases and the cache stays. A frame whose kind is no command kind is answered with UNKNOWN_KIND. -/
def Obligations.RepeatAndUnknownKind : Prop :=
  (∀ s : State, s.canTakeFrame = true ↔ s.interp.executing = false ∧ s.out.restart = .none ∧ s.out.reply = .empty)
  ∧ (∀ (s : State) (f : CommandFrame), s.isRepeat f = true ↔ ∃ c, s.interp.cache = some c ∧ c.tag = f.tag ∧ c.crc = f.crc)
  ∧ ∀ (s : State) (f : CommandFrame) (rest : List CommandFrame), s.quiet = true → s.link.inbox = f :: rest →
    s.canTakeFrame = true →
    (∀ c, s.interp.cache = some c → c.tag = f.tag → c.crc = f.crc → exec .duplicateCommand s =
      .next { s with
        link := { s.link with
          inbox := rest
          counters := { s.link.counters with duplicates := min (s.link.counters.duplicates + 1) 65535 } }
        out := s.out.placeReply c.reply })
    ∧ (commandKindOf f.kind.toNat = none → s.isRepeat f = false → Refuses .unknownKind s f rest .unknownKind)

/-- The 31 command kinds have the codes and payload bounds of R195, and start-up admits six of them. For every kind: while the
system is STARTING a frame of a kind that start-up does not admit is answered with BUSY_STARTING; otherwise a frame whose
payload length is outside the kind's bounds is answered with BAD_LENGTH; and of the frames that reach their owner, a channel
number above 7, a slot number above 31, a pacer number above 3 and a port outside A to D are refused with BAD_VALUE before any
other check. Nothing else changes. -/
def Obligations.RefusedBeforeAnyOtherCheck : Prop :=
  let kinds : List (Nat × CommandKind × Nat × Nat) :=
    [(0x01, .ping, 0, 0), (0x02, .identify, 0, 0), (0x03, .status, 0, 0), (0x04, .stats, 0, 1), (0x05, .restart, 0, 0),
     (0x06, .abortStart, 0, 0), (0x10, .tgtSet, 15, 15), (0x11, .tgtGet, 1, 1), (0x12, .tgtRemove, 1, 1),
     (0x13, .tgtFence, 1, 1), (0x14, .tgtUnfence, 1, 1), (0x20, .memWrite, 4, 243), (0x21, .memRead, 3, 3)]
    ++ [(0x30, .chConfig, 6, 6), (0x31, .chLoad, 11, 67), (0x32, .chClear, 1, 1), (0x33, .chStart, 1, 1),
        (0x34, .chStop, 1, 1), (0x35, .chAbort, 1, 1), (0x36, .chResume, 2, 2), (0x37, .chGet, 1, 2), (0x40, .pcSet, 4, 4),
        (0x41, .pcStart, 1, 1), (0x42, .pcStop, 1, 1), (0x43, .pcGet, 1, 1)]
    ++ [(0x50, .ptEnable, 1, 1), (0x51, .ptDisable, 1, 1), (0x52, .ptReset, 1, 1), (0x53, .ptGet, 1, 1), (0x60, .xfer, 8, 8),
        (0x61, .xferCancel, 1, 1)]
  (∀ k ∈ kinds, commandKindOf k.1 = some k.2.1 ∧ k.2.1.bounds = k.2.2)
  ∧ (∀ code, code ∉ kinds.map (·.1) → commandKindOf code = none)
  ∧ (∀ kind : CommandKind, kind.admittedAtStart = true ↔
    kind ∈ [CommandKind.ping, .identify, .status, .stats, .restart, .abortStart])
  ∧ (∀ (kind : CommandKind) (s : State) (f : CommandFrame) (rest : List CommandFrame), s.quiet = true →
    s.link.inbox = f :: rest → s.canTakeFrame = true → commandKindOf f.kind.toNat = some kind → s.isRepeat f = false →
    (s.replay.system = .starting → kind.admittedAtStart = false → Refuses kind.step s f rest .busyStarting)
    ∧ (s.replay.system = .ready ∨ kind.admittedAtStart = true →
      ¬(kind.bounds.1 ≤ f.payload.length ∧ f.payload.length ≤ kind.bounds.2) → Refuses kind.step s f rest .badLength))
  ∧ ∀ (kind : CommandKind) (s : State) (f : CommandFrame) (rest : List CommandFrame), Takes s kind f rest →
    (kind ∈ [CommandKind.chConfig, .chLoad, .chClear, .chStart, .chStop, .chAbort, .chResume, .chGet] →
      7 < at1 f.payload 0 → Refuses kind.step s f rest .badValue)
    ∧ (kind ∈ [CommandKind.tgtSet, .tgtGet, .tgtRemove, .tgtFence, .tgtUnfence] → 31 < at1 f.payload 0 →
      Refuses kind.step s f rest .badValue)
    ∧ (kind ∈ [CommandKind.pcSet, .pcStart, .pcStop, .pcGet] → 3 < at1 f.payload 0 →
      Refuses kind.step s f rest .badValue)
    ∧ (kind ∈ [CommandKind.ptEnable, .ptDisable, .ptReset, .ptGet] → at1 f.payload 0 = 0 ∨ 4 < at1 f.payload 0 →
      Refuses kind.step s f rest .badValue)

/-! ### System commands (R172 to R176, R187) -/

/-- PING, IDENTIFY and STATUS change nothing but what taking and answering a command changes; IDENTIFY answers the 15 bytes of
R196 and STATUS the system, port and channel states, the notices, the tickets and the pool. -/
def Obligations.StatusCommands : Prop :=
  ∀ (s : State) (f : CommandFrame) (rest : List CommandFrame),
    (Takes s .ping f rest → exec .ping s = .next ((s.takeOldest rest).answer f .ok []))
    ∧ (Takes s .identify f rest → exec .identify s =
      .next ((s.takeOldest rest).answer f .ok
        [0x17, 0x4A, 0x04, 0x26, 1, 4, 32, 8, 128, 0x00, 0x20, 4, 24, 4, 4]))
    ∧ (Takes s .status f rest → exec .status s =
      .next ((s.takeOldest rest).answer f .ok
        (byte1 s.replay.system.code
          ++ byte1 (s.portState .a).code ++ byte1 (s.portState .b).code ++ byte1 (s.portState .c).code
          ++ byte1 (s.portState .d).code
          ++ byte1 (s.channel 0).state.code ++ byte1 (s.channel 1).state.code ++ byte1 (s.channel 2).state.code
          ++ byte1 (s.channel 3).state.code ++ byte1 (s.channel 4).state.code ++ byte1 (s.channel 5).state.code
          ++ byte1 (s.channel 6).state.code ++ byte1 (s.channel 7).state.code
          ++ byte1 s.out.notices.held.length ++ byte1 (windowCount s.out.notices.held)
          ++ byte1 (flagCode s.out.notices.muted) ++ byte1 s.tickets.length ++ byte1 s.poolFree)))

/-- STATS answers the counters as they stand, in 66 bytes: the seven link counters, the three counters of each port and the
seven notice counters, each least significant byte first; a clear flag of 1 then sets the link counters and the three counters
of every port to 0, and leaves the notice counters; a flag above 1 is refused with BAD_VALUE. -/
def Obligations.StatsReadsAndClears : Prop :=
  let two := fun n : Nat => [BitVec.ofNat 8 n, BitVec.ofNat 8 (n / 256)]
  let four := fun n : WrapCount =>
    [BitVec.ofNat 8 n.toNat, BitVec.ofNat 8 (n.toNat / 256), BitVec.ofNat 8 (n.toNat / 65536),
     BitVec.ofNat 8 (n.toNat / 16777216)]
  (∀ s : State,
    let l := s.link.counters
    let n := s.out.notices.counters
    let port := fun p : Port => two (s.engine p).transactions ++ two (s.engine p).failures ++ two (s.engine p).recoveries
    statsBytes s =
      two l.commandFrames ++ two l.acknowledgements ++ two l.gapDiscards ++ two l.badFrames ++ two l.crcErrors
      ++ two l.inboxOverruns ++ two l.duplicates
      ++ port .a ++ port .b ++ port .c ++ port .d
      ++ four n.created ++ four n.merged ++ four n.discarded ++ four n.acknowledged ++ four n.retransmissions
      ++ four n.muteEntries ++ four n.strayAcks
    ∧ (statsBytes s).length = 66)
  ∧ ∀ (s : State) (f : CommandFrame) (rest : List CommandFrame), Takes s .stats f rest →
    (f.payload = [] ∨ f.payload = [0] → exec .stats s =
      .next ((s.takeOldest rest).answer f .ok (statsBytes s)))
    ∧ (f.payload = [1] → exec .stats s =
      .next ({ s.takeOldest rest with
        link := { (s.takeOldest rest).link with
          counters := { commandFrames := 0, acknowledgements := 0, gapDiscards := 0, badFrames := 0, crcErrors := 0,
                        inboxOverruns := 0, duplicates := 0 } }
        engines := s.engines.map (fun e : Engine =>
          { e with transactions := 0, failures := 0, recoveries := 0 }) }.answer f .ok (statsBytes s)))
    ∧ (∀ b : Byte, f.payload = [b] → 1 < b.toNat → Refuses .stats s f rest .badValue)

/-- RESTART is answered OK, and from then on the interpreter takes no command, from the inbox or from the script, whatever
command kind stands in the inbox: such a step takes at most what a tick has ended (log entry 8); no other block is touched. -/
def Obligations.RestartExecuted : Prop :=
  (∀ (s : State) (f : CommandFrame) (rest : List CommandFrame), Takes s .restart f rest → exec .restart s =
    .next ({ s.takeOldest rest with out := { s.out with restart := .executed } }.answer f .ok []))
  ∧ ∀ s : State, s.out.restart ≠ .none →
    (∀ kind : CommandKind, exec kind.step s = .next s.settled) ∧ exec .unknownKind s = .next s.settled
    ∧ exec .duplicateCommand s = .next s.settled ∧ exec .scriptRecord s = .next s.settled
    ∧ (s.quiet = true → s.settled = s)

/-- ABORT_START is refused with WRONG_STATE in READY. In STARTING it is taken: a first one sets abort requested and, in HEADER
or BODY, sends an abort request that names the Replay Unit to port A's engine; a further one changes nothing. -/
def Obligations.AbortStartTaken : Prop :=
  ∀ (s : State) (f : CommandFrame) (rest : List CommandFrame), Takes s .abortStart f rest →
    (s.replay.system = .ready → Refuses .abortStart s f rest .wrongState)
    ∧ (s.replay.system = .starting → s.replay.abortRequested = true → exec .abortStart s =
      .next ((s.takeOldest rest).answer f .ok []))
    ∧ (s.replay.system = .starting → s.replay.abortRequested = false → s.replay.phase = .execute →
      exec .abortStart s =
      .next ({ s.takeOldest rest with replay := { s.replay with abortRequested := true } }.answer f .ok []))
    ∧ (s.replay.system = .starting → s.replay.abortRequested = false →
      s.replay.phase = .header ∨ s.replay.phase = .body → exec .abortStart s =
      .next ({ s.takeOldest rest with
        replay := { s.replay with abortRequested := true }
        engines := s.engines.set .a
          { s.engine .a with abortRequests := (s.engine .a).abortRequests ++ [Owner.replay] } }.answer f .ok []))

/-! ### Target commands (R33 to R43) -/

/-- TGT_SET on a slot n: a definition that breaks a valid combination is refused with BAD_VALUE, then a set in-flight mark
with BUSY, then a port and bus address that another slot has with DUPLICATE; otherwise the slot becomes ONLINE with that
definition and count 0, and is announced. The definition is read field by field from its 14 bytes, with a stretch limit of 0
as 10, a cycle limit of 0 of a MEMORY target as 10 and a fence threshold of 0 as 3, and is one exactly if it meets the valid
combinations; and the 14 bytes by which a valid definition is reported are read as that definition. -/
def Obligations.TargetSet : Prop :=
  (∀ (s : State) (f : CommandFrame) (rest : List CommandFrame) (n : SlotIx), Takes s .tgtSet f rest →
    at1 f.payload 0 = n.val →
    (definitionOf (f.payload.drop 1) = none → Refuses .tgtSet s f rest .badValue)
    ∧ ∀ d, definitionOf (f.payload.drop 1) = some d →
      ((s.slot n).inFlight = true → Refuses .tgtSet s f rest .busy)
      ∧ ((s.slot n).inFlight = false →
        (∃ m t, m ≠ n ∧ (s.slot m).target = some t ∧ t.defn.port = d.port ∧ t.defn.address = d.address) →
        Refuses .tgtSet s f rest .duplicate)
      ∧ ((s.slot n).inFlight = false →
        (∀ m t, m ≠ n → (s.slot m).target = some t → ¬(t.defn.port = d.port ∧ t.defn.address = d.address)) →
        exec .tgtSet s =
          .next ({ s.takeOldest rest with
            slots := s.slots.set n { target := some { defn := d, standing := .online, count := 0 }, inFlight := false }
            slotNews := s.slotNews ++ [n] }.answer f .ok [])))
  ∧ (∀ (b : List Byte) (d : Definition), definitionOf b = some d ↔
    let byte := fun i : Nat => (b.getD i 0).toNat
    d.valid = true ∧ portCode d.port = byte 0 ∧ d.address = byte 1 ∧ d.kind.code = byte 2 ∧ d.offsetWidth = byte 3
    ∧ d.extent = byte 4 + 256 * byte 5 + 65536 * byte 6 ∧ d.pageSize = byte 7 + 256 * byte 8 ∧ d.speed.code = byte 9
    ∧ d.stretchLimit = (if byte 10 = 0 then 10 else byte 10)
    ∧ d.cycleLimit = (if d.kind = .memory ∧ byte 11 = 0 then 10 else byte 11)
    ∧ d.retries = byte 12 ∧ d.fenceThreshold = (if byte 13 = 0 then 3 else byte 13))
  ∧ (∀ d : Definition, d.valid = true ↔
    (0x08 ≤ d.address ∧ d.address ≤ 0x77) ∧ (d.kind = .stream → d.offsetWidth = 0)
    ∧ (d.kind ≠ .stream → d.offsetWidth = 1 ∨ d.offsetWidth = 2) ∧ (1 ≤ d.extent ∧ d.extent ≤ 65536)
    ∧ (d.offsetWidth = 1 → d.extent ≤ 256) ∧ (d.kind = .memory → d.pageSize ∈ [8, 16, 32, 64, 128, 256])
    ∧ (d.kind ≠ .memory → d.pageSize = 0) ∧ (1 ≤ d.stretchLimit ∧ d.stretchLimit ≤ 50)
    ∧ (d.kind = .memory → 1 ≤ d.cycleLimit ∧ d.cycleLimit ≤ 100) ∧ (d.kind ≠ .memory → d.cycleLimit = 0)
    ∧ d.retries ≤ 3 ∧ 1 ≤ d.fenceThreshold ∧ d.fenceThreshold ≤ 15)
  ∧ ∀ d : Definition, d.valid = true → d.bytes.length = 14 ∧ definitionOf d.bytes = some d

/-- TGT_REMOVE, TGT_FENCE and TGT_UNFENCE on a slot n: refused with BUSY or NO_TARGET, taken without a change, or taken with
the slot changed and announced, as the slot stands. -/
def Obligations.TargetRemovedFencedUnfenced : Prop :=
  ∀ (s : State) (f : CommandFrame) (rest : List CommandFrame) (n : SlotIx), at1 f.payload 0 = n.val →
    (Takes s .tgtRemove f rest →
      ((s.slot n).inFlight = true → Refuses .tgtRemove s f rest .busy)
      ∧ ((s.slot n).inFlight = false → (s.slot n).target = none → exec .tgtRemove s =
        .next ((s.takeOldest rest).answer f .ok []))
      ∧ ((s.slot n).inFlight = false → (s.slot n).target ≠ none → exec .tgtRemove s =
        .next ({ s.takeOldest rest with
          slots := s.slots.set n { target := none, inFlight := false }
          slotNews := s.slotNews ++ [n] }.answer f .ok [])))
    ∧ (Takes s .tgtFence f rest →
      ((s.slot n).target = none → Refuses .tgtFence s f rest .noTarget)
      ∧ ∀ t, (s.slot n).target = some t →
        (t.standing = .fenced → exec .tgtFence s = .next ((s.takeOldest rest).answer f .ok []))
        ∧ (t.standing ≠ .fenced → exec .tgtFence s =
          .next ({ s.takeOldest rest with
            slots := s.slots.set n { target := some { t with standing := .fenced }, inFlight := (s.slot n).inFlight }
            slotNews := s.slotNews ++ [n] }.answer f .ok [])))
    ∧ (Takes s .tgtUnfence f rest →
      ((s.slot n).target = none → Refuses .tgtUnfence s f rest .noTarget)
      ∧ ∀ t, (s.slot n).target = some t →
        (t.standing = .online → exec .tgtUnfence s = .next ((s.takeOldest rest).answer f .ok []))
        ∧ (t.standing ≠ .online → exec .tgtUnfence s =
          .next ({ s.takeOldest rest with
            slots := s.slots.set n
              { target := some { t with standing := .online, count := 0 }, inFlight := (s.slot n).inFlight }
            slotNews := s.slotNews ++ [n] }.answer f .ok [])))

/-- TGT_GET, CH_GET, PC_GET and PT_GET change nothing but what taking and answering a command changes, and carry the record as
it stands, field after field, each least significant byte first and by the codes of R191 and R192; a VACANT slot's definition
and count are sent as 0, an empty last result as 0xFF and three bytes 0; the phase follows what a BUSY engine does, and is
none on any other port (STOP after STRETCH_TIMEOUT is the model's choice, log entry 38); CH_GET with an index at or beyond the
ring's length is refused with BAD_VALUE. -/
def Obligations.QueriesAnswered : Prop :=
  let one := fun n : Nat => [BitVec.ofNat 8 n]
  let two := fun n : Nat => [BitVec.ofNat 8 n, BitVec.ofNat 8 (n / 256)]
  let flag := fun b : Bool => if b then 1 else 0
  (∀ n, byte1 n = one n ∧ bytes2 n = two n ∧ bytes3 n = two n ++ one (n / 65536))
  ∧ (∀ b, flagCode b = flag b)
  ∧ [Port.a, .b, .c, .d].map portCode = [1, 2, 3, 4]
  ∧ [PortState.disabled, .idle, .busy, .recovering, .failed].map PortState.code = [0, 1, 2, 3, 4]
  ∧ [Phase.none, .start, .address, .offset, .dataOut, .dataIn, .cyclePoll, .stop].map Phase.code = [0, 1, 2, 3, 4, 5, 6, 7]
  ∧ (∀ e : Engine, (e.portState ≠ .busy → e.phase = .none) ∧ (e.portState = .busy → e.phase = match e.activity with
    | .none => .none
    | .retryGap | .formStart | .beforeSegment | .formRestart => .start
    | .address _ _ => .address
    | .offset _ => .offset
    | .dataOut _ => .dataOut
    | .dataIn _ | .dataInExtra => .dataIn
    | .betweenPolls | .pollStart | .poll => .cyclePoll
    | .formStop _ | .stretchClockWait | .stretchStop => .stop))
  ∧ (∀ e : Engine, (e.recovery = none → e.recoveryAttempt = 0) ∧ ∀ r, e.recovery = some r → e.recoveryAttempt = r.attempt)
  ∧ [ChannelState.off, .paced, .running, .halted, .stopping].map ChannelState.code = [0, 1, 2, 3, 4]
  ∧ (∀ p, [HeadStatus.none, .waiting, .candidate p, .onPort p, .pausing].map HeadStatus.code = [0, 1, 2, 3, 4])
  ∧ [none, some HaltReason.failure, some .watchHold].map haltReasonCode = [0, 1, 2]
  ∧ [TargetKind.memory, .register, .stream].map TargetKind.code = [1, 2, 3]
  ∧ [Speed.khz100, .khz400].map Speed.code = [1, 2] ∧ [PacerMode.repeat_, .single].map PacerMode.code = [0, 1]
  ∧ [SystemState.starting, .ready].map SystemState.code = [0, 1]
  ∧ [Result.done, .addrNak, .offsetNak, .dataNak, .stretchTimeout, .cycleTimeout, .busConflict, .portFailed, .targetFenced,
      .targetVacant, .range, .aborted].map Result.code = [0, 1, 2, 3, 4, 5, 6, 7, 8, 9, 10, 11]
  ∧ (∀ d : Definition, d.bytes =
    one (portCode d.port) ++ one d.address ++ one d.kind.code ++ one d.offsetWidth ++ two d.extent ++ one (d.extent / 65536)
      ++ two d.pageSize ++ one d.speed.code ++ one d.stretchLimit ++ one d.cycleLimit ++ one d.retries
      ++ one d.fenceThreshold)
  ∧ (∀ inFlight, slotBytes { target := none, inFlight := inFlight } = List.replicate 16 0 ++ one (flag inFlight))
  ∧ (∀ (t : Target) (inFlight : Bool), slotBytes { target := some t, inFlight := inFlight } =
    one (match t.standing with
      | .online => 1
      | .suspect => 2
      | .fenced => 3) ++ t.defn.bytes ++ one t.count ++ one (flag inFlight))
  ∧ (recordBytes none = [0xFF, 0, 0, 0] ∧ ∀ r, recordBytes (some r) = one r.result.code ++ two r.moved ++ one r.attempts)
  ∧ (∀ (s : State) (c : ChannelIx),
    let ch := s.channel c
    channelBytes s c =
      one ch.priority.code ++ one ch.mode.code ++ one (pacerSettingCode ch.pacer) ++ one ch.policy.code ++ one ch.wants.code
      ++ one ch.state.code ++ one ch.ring.length ++ one ch.position ++ one ch.doneInPass ++ one ch.head.code
      ++ one ((match ch.head with
          | .onPort _ => 1
          | .pausing => 1
          | .none => 0
          | .waiting => 0
          | .candidate _ => 0) + 2 * flag ch.heldPassEnd)
      ++ one (haltReasonCode ch.haltReason) ++ two ch.passCount ++ two ch.overrunCount ++ two ch.failureCount
      ++ recordBytes ch.lastResult ++ one s.poolFree)
  ∧ (∀ (s : State) (n : PacerIx),
    (∀ c : ChannelIx, (s.boundChannels n).testBit c.val = decide ((s.channel c).pacer = some n)) ∧ s.boundChannels n < 256)
  ∧ ∀ (s : State) (f : CommandFrame) (rest : List CommandFrame),
    (∀ n : SlotIx, Takes s .tgtGet f rest → at1 f.payload 0 = n.val → exec .tgtGet s =
      .next ((s.takeOldest rest).answer f .ok (slotBytes (s.slot n))))
    ∧ (∀ c : ChannelIx, Takes s .chGet f rest → at1 f.payload 0 = c.val →
      (f.payload.length = 1 → exec .chGet s = .next ((s.takeOldest rest).answer f .ok (channelBytes s c)))
      ∧ (∀ d, f.payload.length = 2 → (s.channel c).ring[at1 f.payload 1]? = some d → exec .chGet s =
        .next ((s.takeOldest rest).answer f .ok (channelBytes s c ++ d.bytes)))
      ∧ (f.payload.length = 2 → (s.channel c).ring.length ≤ at1 f.payload 1 → Refuses .chGet s f rest .badValue))
    ∧ (∀ n : PacerIx, Takes s .pcGet f rest → at1 f.payload 0 = n.val → exec .pcGet s =
      .next ((s.takeOldest rest).answer f .ok
        (byte1 (flagCode (s.pacer n).running) ++ bytes2 (s.pacer n).period ++ byte1 (s.pacer n).mode.code
          ++ bytes3 (s.pacer n).remaining ++ bytes2 (s.pacer n).expiryCount ++ byte1 (s.boundChannels n))))
    ∧ ∀ p : Port, Takes s .ptGet f rest → at1 f.payload 0 = portCode p → exec .ptGet s =
      .next ((s.takeOldest rest).answer f .ok
        (byte1 (s.portState p).code ++ byte1 (s.engine p).phase.code ++ byte1 (s.engine p).recoveryAttempt
          ++ bytes2 (s.engine p).transactions ++ bytes2 (s.engine p).failures ++ bytes2 (s.engine p).recoveries))

/-! ### Staging memory (R53, R54) -/

/-- MEM_WRITE, settled in the order of R53. When it is taken, position offset + i holds data byte i, every other position
reads as before, and no other block is touched. -/
def Obligations.MemoryWritten : Prop :=
  ∀ (s : State) (f : CommandFrame) (rest : List CommandFrame), Takes s .memWrite f rest →
    let offset := at2 f.payload 0
    let count := at1 f.payload 2
    let fits := 1 ≤ count ∧ count ≤ 240 ∧ f.payload.length = 3 + count
    let blocked := ∃ p r, s.busy.get p = some r ∧ r.first < offset + count ∧ offset < r.first + r.length
    (¬fits → Refuses .memWrite s f rest .badLength)
    ∧ (fits → 8191 < offset ∨ 8192 < offset + count → Refuses .memWrite s f rest .badValue)
    ∧ (fits → offset ≤ 8191 → offset + count ≤ 8192 → blocked → Refuses .memWrite s f rest .busyRange)
    ∧ (fits → offset ≤ 8191 → offset + count ≤ 8192 → ¬blocked → s.staging.wf = true →
      ∃ m : Memory, exec .memWrite s = .next ({ s.takeOldest rest with staging := m }.answer f .ok [])
        ∧ m.wf = true
        ∧ ∀ a, m.read a =
          if offset ≤ a ∧ a < offset + count then f.payload.getD (3 + (a - offset)) 0 else s.staging.read a)

/-- MEM_READ, settled in the order of R54. When it is taken, the reply carries the bytes from the offset in ascending order,
and nothing is changed. -/
def Obligations.MemoryRead : Prop :=
  ∀ (s : State) (f : CommandFrame) (rest : List CommandFrame), Takes s .memRead f rest →
    let offset := at2 f.payload 0
    let length := at1 f.payload 2
    let fits := 1 ≤ length ∧ length ≤ 240
    let blocked := ∃ p r, s.busy.get p = some r ∧ r.direction = .writes
      ∧ r.first < offset + length ∧ offset < r.first + r.length
    (¬fits → Refuses .memRead s f rest .badLength)
    ∧ (fits → 8191 < offset ∨ 8192 < offset + length → Refuses .memRead s f rest .badValue)
    ∧ (fits → offset ≤ 8191 → offset + length ≤ 8192 → blocked → Refuses .memRead s f rest .busyRange)
    ∧ (fits → offset ≤ 8191 → offset + length ≤ 8192 → ¬blocked → exec .memRead s =
      .next ((s.takeOldest rest).answer f .ok ((List.range length).map (fun i => s.staging.read (offset + i)))))

/-! ### Channel commands (R7 to R11, R24 to R28, R122) -/

/-- CH_CONFIG, CH_LOAD, CH_CLEAR and CH_START on a channel that is not OFF, and CH_START on an empty ring, are refused with
WRONG_STATE. CH_CONFIG on an OFF channel sets the five settings and clears counts and last result, or is refused with
BAD_VALUE when one is outside its set. A setting is one of its set exactly if the byte is its code: priority 0 to 3, mode and
failure policy 0 and 1, pacer 0 to 3 or 0xFF for none, wants a bit for each of HALF, PASS, FAIL and OVERRUN. -/
def Obligations.ChannelConfigured : Prop :=
  (∀ n x, priorityOf n = some x ↔ x.code = n) ∧ (∀ n x, channelModeOf n = some x ↔ x.code = n)
  ∧ (∀ n x, pacerSettingOf n = some x ↔ pacerSettingCode x = n) ∧ (∀ n x, failurePolicyOf n = some x ↔ x.code = n)
  ∧ (∀ n x, wantsOf n = some x ↔ x.code = n)
  ∧ [Priority.low, .normal, .high, .urgent].map Priority.code = [0, 1, 2, 3]
  ∧ [ChannelMode.once, .circular].map ChannelMode.code = [0, 1]
  ∧ [FailurePolicy.halt, .skip].map FailurePolicy.code = [0, 1]
  ∧ pacerSettingCode none = 0xFF ∧ (∀ n : PacerIx, pacerSettingCode (some n) = n.val)
  ∧ (∀ w : Wants, w.code = (if w.half then 1 else 0) + (if w.pass then 2 else 0) + (if w.fail then 4 else 0)
      + (if w.overrun then 8 else 0))
  ∧ ∀ (s : State) (f : CommandFrame) (rest : List CommandFrame) (c : ChannelIx), at1 f.payload 0 = c.val →
    (∀ kind ∈ [CommandKind.chConfig, .chLoad, .chClear, .chStart], Takes s kind f rest → (s.channel c).state ≠ .off →
      Refuses kind.step s f rest .wrongState)
    ∧ (Takes s .chStart f rest → (s.channel c).ring = [] → Refuses .chStart s f rest .wrongState)
    ∧ (Takes s .chConfig f rest → (s.channel c).state = .off →
      (priorityOf (at1 f.payload 1) = none ∨ channelModeOf (at1 f.payload 2) = none
        ∨ pacerSettingOf (at1 f.payload 3) = none ∨ failurePolicyOf (at1 f.payload 4) = none
        ∨ wantsOf (at1 f.payload 5) = none → Refuses .chConfig s f rest .badValue)
      ∧ ∀ pr mo pa fp w, priorityOf (at1 f.payload 1) = some pr → channelModeOf (at1 f.payload 2) = some mo →
        pacerSettingOf (at1 f.payload 3) = some pa → failurePolicyOf (at1 f.payload 4) = some fp →
        wantsOf (at1 f.payload 5) = some w → exec .chConfig s =
        .next ({ s.takeOldest rest with
          channels := s.channels.set c
            { s.channel c with
              priority := pr, mode := mo, pacer := pa, policy := fp, wants := w
              passCount := 0, overrunCount := 0, failureCount := 0, lastResult := none } }.answer f .ok []))

/-- CH_LOAD and CH_CLEAR on an OFF channel. A count outside 1 to 8 or not matching the payload is refused with BAD_LENGTH,
then a bad flag or descriptor with BAD_VALUE, then want of room with NO_ROOM. When taken, with the first flag the ring is
emptied into the pool first, the descriptors are appended, and the pool gives them up; position and done-in-pass return to 0
with the first flag and with CH_CLEAR. A descriptor is read from its eight bytes by the table of section 12.4 and is one
exactly if it passes the checks of R6; several are read one after another, and all must pass; and the bytes by which a
descriptor, or a list of them, that passes is reported are read as that descriptor or list. -/
def Obligations.RingLoadedAndCleared : Prop :=
  let passes := fun d : Descriptor =>
    match d with
    | .pause ms => 1 ≤ ms ∧ ms ≤ 65535
    | .transfer t =>
      t.offset ≤ 65535 ∧ 1 ≤ t.length
      ∧ match t.op with
        | .read => t.length ≤ 256 ∧ t.position + t.length ≤ 8192
        | .write => t.length ≤ 256 ∧ t.position + t.length ≤ 8192
        | .watch _ _ => t.length ≤ 16 ∧ t.position + 3 * t.length ≤ 8192
  (∀ (b : List Byte) (i : Nat), at1 b i = (b.getD i 0).toNat ∧ at2 b i = at1 b i + 256 * at1 b (i + 1))
  ∧ (∀ n x, flagOf n = some x ↔ n = if x then 1 else 0)
  ∧ [WatchMode.onChange, .onMatch, .onDiffer].map WatchMode.code = [1, 2, 3]
  ∧ (∀ (b : List Byte) (d : Descriptor), descriptorOf b = some d ↔ passes d
    ∧ match d with
      | .pause ms => at1 b 0 = 4 ∧ ms = at2 b 2
      | .transfer t =>
        t.slot.val = at1 b 1 ∧ t.offset = at2 b 2 ∧ t.length = at2 b 4 ∧ t.position = at2 b 6 % 8192
        ∧ match t.op with
          | .read => at1 b 0 = 1
          | .write => at1 b 0 = 2
          | .watch mode hold => at1 b 0 = 3 ∧ mode.code = at2 b 6 / 8192 % 4 ∧ hold = decide (32768 ≤ at2 b 6))
  ∧ (∀ (b : List Byte) (n : Nat) (d : Descriptor) (ds : List Descriptor), descriptorsOf 0 b = some []
    ∧ (descriptorsOf (n + 1) b = some (d :: ds) ↔
      descriptorOf (b.take 8) = some d ∧ descriptorsOf n (b.drop 8) = some ds))
  ∧ (∀ t : Transfer,
    let high := match t.op with
      | .read => 0
      | .write => 0
      | .watch mode hold => 8192 * mode.code + (if hold then 32768 else 0)
    (Descriptor.transfer t).bytes =
      [match t.op with
        | .read => 1
        | .write => 2
        | .watch _ _ => 3,
        BitVec.ofNat 8 t.slot.val, BitVec.ofNat 8 t.offset, BitVec.ofNat 8 (t.offset / 256), BitVec.ofNat 8 t.length,
        BitVec.ofNat 8 (t.length / 256), BitVec.ofNat 8 (t.position + high), BitVec.ofNat 8 ((t.position + high) / 256)])
  ∧ (∀ ms, (Descriptor.pause ms).bytes = [4, 0, BitVec.ofNat 8 ms, BitVec.ofNat 8 (ms / 256), 0, 0, 0, 0])
  ∧ (∀ d, passes d → descriptorOf d.bytes = some d)
  ∧ (∀ ds : List Descriptor, (∀ d ∈ ds, passes d) → descriptorsOf ds.length (ds.flatMap Descriptor.bytes) = some ds)
  ∧ ∀ (s : State) (f : CommandFrame) (rest : List CommandFrame) (c : ChannelIx), at1 f.payload 0 = c.val →
    (s.channel c).state = .off →
    (Takes s .chLoad f rest →
      let k := at1 f.payload 2
      let fits := 1 ≤ k ∧ k ≤ 8 ∧ f.payload.length = 3 + 8 * k
      (¬fits → Refuses .chLoad s f rest .badLength)
      ∧ (fits → flagOf (at1 f.payload 1) = none ∨ descriptorsOf k (f.payload.drop 3) = none →
        Refuses .chLoad s f rest .badValue)
      ∧ ∀ first ds, fits → flagOf (at1 f.payload 1) = some first → descriptorsOf k (f.payload.drop 3) = some ds →
        let kept := if first then [] else (s.channel c).ring
        let free := if first then s.poolFree + (s.channel c).ring.length else s.poolFree
        ds.length = k
        ∧ (free < k ∨ 32 < kept.length + k → Refuses .chLoad s f rest .noRoom)
        ∧ (k ≤ free → kept.length + k ≤ 32 → exec .chLoad s =
          .next ({ s.takeOldest rest with
            poolFree := free - k
            channels := s.channels.set c
              { s.channel c with
                ring := kept ++ ds
                position := if first then 0 else (s.channel c).position
                doneInPass := if first then 0 else (s.channel c).doneInPass } }.answer f .ok
              (byte1 (kept.length + k) ++ byte1 (free - k)))))
    ∧ (Takes s .chClear f rest → exec .chClear s =
      .next ({ s.takeOldest rest with
        poolFree := s.poolFree + (s.channel c).ring.length
        channels := s.channels.set c { s.channel c with ring := [], position := 0, doneInPass := 0 } }.answer f .ok []))

/-- CH_START on an OFF channel with a ring: with a pacer bound the channel waits PACED; without one a pass begins: RUNNING at
position 0 with done-in-pass 0, and the head is served. The reply carries the state the channel is left in (the model's choice
where the head fails at once, log entry 36). -/
def Obligations.ChannelStarted : Prop :=
  ∀ (s : State) (f : CommandFrame) (rest : List CommandFrame) (c : ChannelIx), Takes s .chStart f rest →
    at1 f.payload 0 = c.val → (s.channel c).state = .off → (s.channel c).ring ≠ [] →
    (∀ n, (s.channel c).pacer = some n → exec .chStart s =
      .next ({ s.takeOldest rest with
        channels := s.channels.set c
          { s.channel c with state := .paced, position := 0, doneInPass := 0, head := .none } }.answer f .ok [1]))
    ∧ ((s.channel c).pacer = none →
      let t := ({ s.takeOldest rest with
        channels := s.channels.set c
          { s.channel c with
            state := .running, position := 0, doneInPass := 0, head := .none, passGap := none } } :
        State).serveHead false c
      exec .chStart s = .next (t.answer f .ok (byte1 (t.channel c).state.code)))

/-- The head of a channel is served by the first outcome of R15 that applies: a PAUSE starts the pause timer; a VACANT slot, a
FENCED slot, a FAILED port and a wrong range fail at once with a failure count one higher, under HALT with CHANNEL_HALTED and
no advance, under SKIP with DESC_FAILED if wanted and the head finished; a DISABLED port makes it WAITING; otherwise it
becomes CANDIDATE at its port, which if IDLE has a grant occasion, and nothing else changes; a head that is a CANDIDATE there
already stays one without any change. -/
def Obligations.HeadServed : Prop :=
  (∀ (s : State) (inTick : Bool) (c : ChannelIx), (s.channel c).ring[(s.channel c).position]? = none →
    s.serveHead inTick c = s)
  ∧ ∀ (s : State) (inTick : Bool) (c : ChannelIx) (d : Descriptor),
    (s.channel c).ring[(s.channel c).position]? = some d →
    (∀ ms, d = .pause ms → s.serveHead inTick c = s.setChannel c
      { s.channel c with head := .pausing, pauseTimer := some (if inTick then ms else ms + 1) })
    ∧ (∀ t r, d = .transfer t →
      ((s.slot t.slot).target = none ∧ r = .targetVacant)
        ∨ (∃ g, (s.slot t.slot).target = some g ∧ g.standing = .fenced ∧ r = .targetFenced)
        ∨ (∃ g, (s.slot t.slot).target = some g ∧ g.standing ≠ .fenced ∧ s.portState g.defn.port = .failed
          ∧ r = .portFailed)
        ∨ (∃ g, (s.slot t.slot).target = some g ∧ g.standing ≠ .fenced ∧ s.portState g.defn.port ≠ .failed
          ∧ (g.defn.extent < t.offset + t.length ∨ g.defn.kind = .stream ∧ t.offset ≠ 0) ∧ r = .range) →
      ((s.channel c).policy = .halt → s.serveHead inTick c = (s.setChannel c
        { s.channel c with
          state := .halted, haltReason := some .failure, head := .none, pauseTimer := none, arriving := none
          lastResult := some { result := r, moved := 0, attempts := 0 }
          failureCount := min ((s.channel c).failureCount + 1) 65535 }).claim
        (.channelHalted c (s.channel c).position r t.slot))
      ∧ ((s.channel c).policy = .skip → s.serveHead inTick c = ((s.setChannel c
        { s.channel c with
          head := .none, pauseTimer := none, arriving := none
          lastResult := some { result := r, moved := 0, attempts := 0 }
          failureCount := min ((s.channel c).failureCount + 1) 65535 }).claimIf (s.channel c).wants.fail
        (.descFailed c (s.channel c).position r t.slot 0)).finishAndGoOn inTick c))
    ∧ ∀ t g, d = .transfer t → (s.slot t.slot).target = some g → g.standing ≠ .fenced →
      t.offset + t.length ≤ g.defn.extent → (g.defn.kind = .stream → t.offset = 0) →
      (s.portState g.defn.port = .disabled → s.serveHead inTick c = s.setChannel c
        { s.channel c with head := .waiting })
      ∧ (s.portState g.defn.port ≠ .disabled → s.portState g.defn.port ≠ .failed →
        ((s.channel c).head = .candidate g.defn.port → s.serveHead inTick c = s)
        ∧ ((s.channel c).head ≠ .candidate g.defn.port → s.serveHead inTick c =
          { s with
            channels := s.channels.set c { s.channel c with head := .candidate g.defn.port }
            arbiters :=
              if s.portState g.defn.port = .idle then
                s.arbiters.set g.defn.port { s.arbiter g.defn.port with occasion := true }
              else s.arbiters }))

/-- CH_STOP and CH_ABORT: OFF and STOPPING stay; a RUNNING channel with its head ON_PORT becomes STOPPING; every other channel
goes to OFF with its head withdrawn and its timers cancelled, at its position. CH_ABORT with the head ON_PORT also sends the
port's engine an abort request that names the channel. The reply carries the state entered. -/
def Obligations.ChannelStoppedAndAborted : Prop :=
  ∀ (s : State) (f : CommandFrame) (rest : List CommandFrame) (c : ChannelIx), at1 f.payload 0 = c.val →
    let off := { s.channel c with
      state := .off, head := .none, haltReason := none, heldPassEnd := false, pauseTimer := none, passGap := none }
    (∀ kind ∈ [CommandKind.chStop, .chAbort], Takes s kind f rest → (∀ p, (s.channel c).head ≠ .onPort p) →
      ((s.channel c).state = .off → exec kind.step s = .next ((s.takeOldest rest).answer f .ok [0]))
      ∧ ((s.channel c).state ≠ .off → (s.channel c).state ≠ .stopping → exec kind.step s =
        .next ({ s.takeOldest rest with channels := s.channels.set c off }.answer f .ok [0])))
    ∧ ∀ p, (s.channel c).head = .onPort p → (s.channel c).state = .running ∨ (s.channel c).state = .stopping →
      (Takes s .chStop f rest → exec .chStop s =
        .next ({ s.takeOldest rest with
          channels := s.channels.set c { s.channel c with state := .stopping } }.answer f .ok [4]))
      ∧ (Takes s .chAbort f rest → exec .chAbort s =
        .next ({ s.takeOldest rest with
          channels := s.channels.set c { s.channel c with state := .stopping }
          engines := s.engines.set p
            { s.engine p with abortRequests := (s.engine p).abortRequests ++ [Owner.channel c] } }.answer f .ok [4]))

/-- CH_RESUME: refused with BAD_VALUE for a skip flag above 1 and with WRONG_STATE on a channel that is not HALTED. After
FAILURE it serves the failed descriptor again, or with the skip flag finishes it as skipped and goes on; after WATCH_HOLD it
goes on from the position, or takes the course of the pass end held. The reply carries the state the channel is left in (the
model's choice where a head fails at once, log entry 36). -/
def Obligations.ChannelResumed : Prop :=
  ∀ (s : State) (f : CommandFrame) (rest : List CommandFrame) (c : ChannelIx), Takes s .chResume f rest →
    at1 f.payload 0 = c.val →
    (1 < at1 f.payload 1 → Refuses .chResume s f rest .badValue)
    ∧ (at1 f.payload 1 ≤ 1 → (s.channel c).state ≠ .halted → Refuses .chResume s f rest .wrongState)
    ∧ ∀ released, released = ({ s.takeOldest rest with
        channels := s.channels.set c { s.channel c with state := .running, haltReason := none } } : State) →
      (s.channel c).state = .halted →
      (at1 f.payload 1 = 0 → (s.channel c).haltReason = some .failure →
        exec .chResume s = .next ((released.serveHead false c).answer f .ok
          (byte1 ((released.serveHead false c).channel c).state.code)))
      ∧ (at1 f.payload 1 = 1 → (s.channel c).haltReason = some .failure →
        exec .chResume s = .next ((released.finishAndGoOn false c).answer f .ok
          (byte1 ((released.finishAndGoOn false c).channel c).state.code)))
      ∧ (at1 f.payload 1 ≤ 1 → (s.channel c).haltReason = some .watchHold → (s.channel c).heldPassEnd = true →
        (s.channel c).mode = .once → exec .chResume s =
          .next ({ s.takeOldest rest with
            channels := s.channels.set c
              { s.channel c with state := .off, haltReason := none, heldPassEnd := false, head := .none } }.answer f .ok
            [0]))
      ∧ (at1 f.payload 1 ≤ 1 → (s.channel c).haltReason = some .watchHold → (s.channel c).heldPassEnd = true →
        (s.channel c).mode = .circular → (s.channel c).pacer ≠ none → exec .chResume s =
          .next ({ s.takeOldest rest with
            channels := s.channels.set c
              { s.channel c with state := .paced, haltReason := none, heldPassEnd := false, head := .none } }.answer f .ok
            [1]))
      ∧ (at1 f.payload 1 ≤ 1 → (s.channel c).haltReason = some .watchHold → (s.channel c).heldPassEnd = true →
        (s.channel c).mode = .circular → (s.channel c).pacer = none → exec .chResume s =
          .next ({ s.takeOldest rest with
            channels := s.channels.set c
              { s.channel c with
                state := .running, haltReason := none, heldPassEnd := false, head := .none
                passGap := some 1 } }.answer f .ok [2]))
      ∧ (at1 f.payload 1 ≤ 1 → (s.channel c).haltReason = some .watchHold → (s.channel c).heldPassEnd = false →
        exec .chResume s = .next ((released.serveHead false c).answer f .ok
          (byte1 ((released.serveHead false c).channel c).state.code)))

/-! ### Pacers (R125 to R133) -/

/-- PC_SET, PC_START and PC_STOP, each settled whole: PC_SET on a RUNNING pacer is refused with WRONG_STATE and for a period 0
or an unknown mode with BAD_VALUE, else it sets period and mode, 0 for REPEAT and 1 for SINGLE, alone; PC_START sets the time
remaining to the period plus one and RUNNING; PC_STOP sets STOPPED with time remaining 0, and changes nothing on a STOPPED
pacer. -/
def Obligations.PacerCommands : Prop :=
  (∀ n mode, pacerModeOf n = some mode ↔ n = if mode = .repeat_ then 0 else 1)
  ∧ ∀ (s : State) (f : CommandFrame) (rest : List CommandFrame) (n : PacerIx), at1 f.payload 0 = n.val →
    (Takes s .pcSet f rest →
      ((s.pacer n).running = true → Refuses .pcSet s f rest .wrongState)
      ∧ ((s.pacer n).running = false → at2 f.payload 1 = 0 ∨ 1 < at1 f.payload 3 → Refuses .pcSet s f rest .badValue)
      ∧ ∀ mode, (s.pacer n).running = false → at2 f.payload 1 ≠ 0 → pacerModeOf (at1 f.payload 3) = some mode →
        exec .pcSet s = .next ({ s.takeOldest rest with
          pacers := s.pacers.set n { s.pacer n with period := at2 f.payload 1, mode := mode } }.answer f .ok []))
    ∧ (Takes s .pcStart f rest → exec .pcStart s =
      .next ({ s.takeOldest rest with
        pacers := s.pacers.set n
          { s.pacer n with running := true, remaining := (s.pacer n).period + 1, expiring := false } }.answer f .ok []))
    ∧ (Takes s .pcStop f rest →
      ((s.pacer n).running = true → exec .pcStop s =
        .next ({ s.takeOldest rest with
          pacers := s.pacers.set n { s.pacer n with running := false, remaining := 0, expiring := false } }.answer f .ok []))
      ∧ ((s.pacer n).running = false → exec .pcStop s = .next ((s.takeOldest rest).answer f .ok [])))

/-- TIMEBASE_TICK: every interval that runs falls by one tick, the time remaining of every RUNNING pacer with them; the tick
that would bring a pacer to 0 makes its expiry due; a clock line held low at the tick counts against the stretch limit, the
first such tick being the first of its n+1; every other field is unchanged. What a tick has ended is due: the step named for
it gives it its effect, and any other event but a reset is taken after it. That an expiry is a step of its own, due before any
other event, is log entry 8, the order of those due together log entry 41, how a stretch is counted log entry 9, and that a
clock held low before a segment or a poll means that its START has begun log entry 17; that a cycle limit taken before another
step, ABORT_REQUEST with any operand among them, finds the next poll's START begun is the model's choice (log entry 42). -/
def Obligations.TickCounted : Prop :=
  (∀ (s : State) (stretched : List Port), s.quiet = true → ∃ t, exec (.timebaseTick stretched) s = .next t
    ∧ (∀ n, t.pacer n =
      if (s.pacer n).running = false then s.pacer n
      else if (s.pacer n).remaining ≤ 1 then { s.pacer n with expiring := true }
      else { s.pacer n with remaining := (s.pacer n).remaining - 1 })
    ∧ (∀ c, t.channel c =
      { s.channel c with pauseTimer := (s.channel c).pauseTimer.map (· - 1), passGap := (s.channel c).passGap.map (· - 1) })
    ∧ (∀ p,
      let e := s.engine p
      let counted := { e with
        waitTimer := e.waitTimer.map (· - 1), cycleTimer := e.cycleTimer.map (· - 1), stretchTimer := none }
      (p ∉ stretched ∨ e.transaction = none ∨ e.activity.clocks = false → t.engine p = counted)
      ∧ ∀ tr, p ∈ stretched → e.transaction = some tr → e.activity.clocks = true → t.engine p =
        { counted with
          activity :=
            if e.activity = .beforeSegment then .formStart
            else if e.activity = .betweenPolls then .pollStart else e.activity
          stretchTimer := if e.stretchTimer = none then some tr.defn.stretchLimit else e.stretchTimer.map (· - 1) })
    ∧ t.link = { s.link with gapTimer := s.link.gapTimer.map (· - 1) }
    ∧ t.out = { s.out with notices := { s.out.notices with
        held := s.out.notices.held.map (fun n => { n with
          timer := match n.timer with
            | .running k => .running (k - 1)
            | .none => .none
            | .due => .due }) } }
    ∧ t = { s with pacers := t.pacers, channels := t.channels, engines := t.engines, link := t.link, out := t.out })
  ∧ (∀ (s : State) (x : Expiry), s.operating = true → exec x.step s = .next (s.expire x))
  ∧ (∀ (s : State) (x : Expiry), s.isDue x = false → s.expire x = s)
  ∧ (∀ (s : State) (p : Port),
    let e := s.engine p
    let onBus := fun waits : Prop => s.portState p = .busy ∧ e.transaction ≠ none ∧ waits
    let inRecovery := fun steps : List RecoveryStep =>
      s.portState p = .recovering ∧ e.waitTimer = some 0 ∧ ∃ r, e.recovery = some r ∧ r.step ∈ steps
    (∀ n, s.isDue (.pacer n) = true ↔ (s.pacer n).running = true ∧ (s.pacer n).expiring = true)
    ∧ (∀ c, s.isDue (.pause c) = true ↔
      (s.channel c).state = .running ∧ (s.channel c).head = .pausing ∧ (s.channel c).pauseTimer = some 0)
    ∧ (∀ c, s.isDue (.passGap c) = true ↔
      (s.channel c).state = .running ∧ (s.channel c).head = .none ∧ (s.channel c).passGap = some 0)
    ∧ (s.isDue .linkGap = true ↔ s.link.gapTimer = some 0 ∧ s.link.deframer ≠ .hunt)
    ∧ (∀ number, s.isDue (.retransmit number) = true ↔
      ∃ n ∈ s.out.notices.held, n.inWindow = true ∧ n.number = number ∧ n.timer = .running 0)
    ∧ (s.isDue (.stretch p) = true ↔ onBus (e.activity.clocks = true ∧ e.stretchTimer = some 0))
    ∧ (s.isDue (.stopClockWait p) = true ↔ onBus (e.activity = .stretchClockWait ∧ e.waitTimer = some 0))
    ∧ (∀ begun, s.isDue (.cycleLimit p begun) = true ↔
      onBus (e.activity ∈ [Activity.betweenPolls, .pollStart, .poll] ∧ e.cycleTimer = some 0))
    ∧ (s.isDue (.retryGap p) = true ↔ onBus (e.activity = .retryGap ∧ e.waitTimer = some 0))
    ∧ (s.isDue (.recoveryClockWait p) = true ↔ inRecovery [.clockWait, .stop])
    ∧ (s.isDue (.recoveryGap p) = true ↔ inRecovery [.gap])
    ∧ (s.quiet = true ↔ s.operating = true ∧ ∀ x ∈ s.intervals, s.isDue x = false))
  ∧ (∀ s : State, s.takeDue = (s.intervals.filter s.isDue).foldl State.expire s)
  ∧ (∀ s : State, s.intervals =
    [Expiry.pacer 0, .pacer 1, .pacer 2, .pacer 3]
    ++ ([0, 1, 2, 3, 4, 5, 6, 7] : List ChannelIx).flatMap (fun c => [Expiry.pause c, .passGap c])
    ++ [Expiry.linkGap] ++ s.out.notices.held.map (fun n => Expiry.retransmit n.number)
    ++ [Port.a, .b, .c, .d].flatMap (fun p =>
        [Expiry.stretch p, .stopClockWait p, .cycleLimit p true, .retryGap p, .recoveryClockWait p, .recoveryGap p]))
  ∧ ∀ (s : State) (c : Instr), s.operating = true → (∀ x : Expiry, c ≠ x.step) → ¬isResetCause c →
    s.takeDue.quiet = true → exec c s = exec c s.takeDue

/-- PACER_EXPIRY of a RUNNING pacer whose time a tick has brought to its end: the expiry count increases, REPEAT reloads the
period and stays RUNNING, SINGLE stops; then each channel that names the pacer is taken in ascending order: PACED begins a
pass, RUNNING, HALTED and STOPPING count an overrun and raise PACE_OVERRUN if wanted, OFF nothing. -/
def Obligations.PacerExpires : Prop :=
  (∀ (s : State) (n : PacerIx), s.operating = true → (s.pacer n).running = true → (s.pacer n).expiring = true →
    exec (.pacerExpiry n) s = .next
      ([0, 1, 2, 3, 4, 5, 6, 7].foldl
        (fun (u : State) (c : ChannelIx) => if (u.channel c).pacer = some n then u.expiryAt c else u)
        { s with
          pacers := s.pacers.set n
            { s.pacer n with
              expiryCount := min ((s.pacer n).expiryCount + 1) 65535
              running := decide ((s.pacer n).mode = .repeat_)
              remaining := if (s.pacer n).mode = .repeat_ then (s.pacer n).period else 0
              expiring := false } }))
  ∧ ∀ (s : State) (c : ChannelIx),
    ((s.channel c).state = .off → s.expiryAt c = s)
    ∧ ((s.channel c).state = .paced → s.expiryAt c =
      (s.setChannel c { s.channel c with
        state := .running, position := 0, doneInPass := 0, head := .none, passGap := none }).serveHead true c)
    ∧ ((s.channel c).state = .running ∨ (s.channel c).state = .halted ∨ (s.channel c).state = .stopping →
      s.expiryAt c =
        (s.setChannel c { s.channel c with overrunCount := min ((s.channel c).overrunCount + 1) 65535 }).claimIf
          (s.channel c).wants.overrun (.paceOverrun c (min ((s.channel c).overrunCount + 1) 65535)))

/-! ### Port commands (R108 to R111) -/

/-- PT_ENABLE, PT_DISABLE and PT_RESET, each settled by the port state: refused, or taken with the port changed, its change
announced, and for IDLE a grant occasion; PT_RESET on a port that is not DISABLED begins a recovery on an IDLE or FAILED one,
sends the current grant's owner's abort request to the engine of a BUSY one, and sets abort requested at once on a transaction
that waits for a recovery; with an empty current grant it sends and sets none (both DEDUCED, log entry 32). Before a command
changes the state of an IDLE, FAILED or DISABLED port, what that port has announced is heard (log entry 13), the parties in
the order channels ascending, then tickets (the model's choice, log entry 44). -/
def Obligations.PortCommands : Prop :=
  ∀ (s : State) (f : CommandFrame) (rest : List CommandFrame) (p : Port), at1 f.payload 0 = portCode p →
    let u := (s.takeOldest rest).hearPort p
    (s.portNews.get p = [] → u = s.takeOldest rest)
    ∧ (s.portNews.get p ≠ [] → u =
      ((s.takeOldest rest).partiesInOrder []).foldl
        (reevaluateParty (fun t => (s.slot t.slot).target.any (fun g => g.defn.port == p)))
        { s.takeOldest rest with portNews := s.portNews.set p [] })
    ∧ (Takes s .ptEnable f rest →
      (s.portState p ≠ .disabled → Refuses .ptEnable s f rest .wrongState)
      ∧ (s.portState p = .disabled → exec .ptEnable s =
        .next ({ u with
          engines := s.engines.set p { s.engine p with portState := .idle }
          portNews := s.portNews.set p [PortState.idle]
          arbiters := u.arbiters.set p { u.arbiter p with occasion := true } }.answer f .ok [])))
    ∧ (Takes s .ptDisable f rest →
      (s.portState p = .busy ∨ s.portState p = .recovering → Refuses .ptDisable s f rest .busy)
      ∧ (s.portState p = .disabled → exec .ptDisable s = .next ((s.takeOldest rest).answer f .ok []))
      ∧ (s.portState p = .idle ∨ s.portState p = .failed → exec .ptDisable s =
        .next ({ u with
          engines := s.engines.set p { s.engine p with portState := .disabled }
          portNews := s.portNews.set p [PortState.disabled] }.answer f .ok [])))
    ∧ (Takes s .ptReset f rest →
      (s.portState p = .disabled → Refuses .ptReset s f rest .wrongState)
      ∧ (s.portState p = .idle ∨ s.portState p = .failed → exec .ptReset s =
        .next ({ u with
          engines := s.engines.set p
            { s.engine p with
              portState := .recovering, ptResetRequested := true, activity := .none, stretchTimer := none
              recovery := some { attempt := 1, pulses := 0, step := .clockWait }, waitTimer := some 2 }
          portNews := s.portNews.set p [PortState.recovering] }.answer f .ok [3]))
      ∧ (∀ owner, s.portState p = .busy → (s.arbiter p).grant = some owner → exec .ptReset s =
        .next ({ s.takeOldest rest with
          engines := s.engines.set p
            { s.engine p with
              ptResetRequested := true, abortRequests := (s.engine p).abortRequests ++ [owner] } }.answer f .ok [2]))
      ∧ (∀ t, s.portState p = .recovering → (s.engine p).transaction = some t → (s.arbiter p).grant = some t.owner →
        exec .ptReset s =
        .next ({ s.takeOldest rest with
          engines := s.engines.set p
            { s.engine p with ptResetRequested := true, abortRequested := true } }.answer f .ok [3]))
      ∧ (s.portState p = .recovering → (s.engine p).transaction = none → exec .ptReset s =
        .next ({ s.takeOldest rest with
          engines := s.engines.set p { s.engine p with ptResetRequested := true } }.answer f .ok [3]))
      ∧ (s.portState p = .busy ∨ s.portState p = .recovering → (s.arbiter p).grant = none → exec .ptReset s =
        .next ({ s.takeOldest rest with
          engines := s.engines.set p { s.engine p with ptResetRequested := true } }.answer f .ok
            (byte1 (s.portState p).code))))

/-! ### The Direct Queue (R64 to R70) -/

/-- XFER and XFER_CANCEL, each settled in its rule's order. An accepted XFER takes the first number from the next ticket
number on, wrapping from 255 to 0, that no ticket holds, appends its ticket, answers with the number, and only then evaluates
the ticket. The evaluation of a QUEUED ticket: a VACANT slot, a FENCED slot, a FAILED port and a wrong range remove it and
raise XFER_DONE with that result and 0 bytes; a DISABLED port makes it WAITING; otherwise it is a CANDIDATE at its port, and
if it was none there an IDLE port has a grant occasion. An IN_FLIGHT ticket is not evaluated. XFER takes a descriptor that
passes the load-time checks and is neither a PAUSE nor a WATCH with its hold flag set. -/
def Obligations.DirectQueueCommands : Prop :=
  (∀ (b : List Byte) (t : Transfer), xferTransferOf b = some t ↔
    descriptorOf b = some (.transfer t) ∧ ∀ mode, t.op ≠ .watch mode true)
  ∧ (∀ (s : State) (f : CommandFrame) (rest : List CommandFrame),
    (Takes s .xfer f rest →
      (xferTransferOf f.payload = none → Refuses .xfer s f rest .badValue)
      ∧ ∀ t, xferTransferOf f.payload = some t →
        (4 ≤ s.tickets.length → Refuses .xfer s f rest .noRoom)
        ∧ (s.tickets.length < 4 → (s.slot t.slot).target = none → Refuses .xfer s f rest .noTarget)
        ∧ ∀ g, s.tickets.length < 4 → (s.slot t.slot).target = some g →
          (g.defn.extent < t.offset + t.length ∨ g.defn.kind = .stream ∧ t.offset ≠ 0 →
            Refuses .xfer s f rest .range)
          ∧ (t.offset + t.length ≤ g.defn.extent → (g.defn.kind = .stream → t.offset = 0) →
            ∃ k n, k ≤ s.tickets.length ∧ n = (s.nextTicket + k) % 256 ∧ (∀ u ∈ s.tickets, u.number ≠ n)
              ∧ (∀ j, j < k → ∃ u ∈ s.tickets, u.number = (s.nextTicket + j) % 256)
              ∧ exec .xfer s = .next (
                let posted : State := { s.takeOldest rest with
                  tickets := s.tickets ++ [{ number := n, transfer := t, state := .waiting, arrived := none }]
                  nextTicket := (n + 1) % 256 }
                (posted.answer f .ok (byte1 n)).evaluateTicket n)))
    ∧ (Takes s .xferCancel f rest →
      (s.ticket (at1 f.payload 0) = none → Refuses .xferCancel s f rest .badValue)
      ∧ ∀ t, s.ticket (at1 f.payload 0) = some t →
        (t.state = .inFlight → Refuses .xferCancel s f rest .busy)
        ∧ (t.state ≠ .inFlight → exec .xferCancel s =
          .next ({ s.takeOldest rest with
            tickets := s.tickets.eraseP (fun u => u.number == at1 f.payload 0) }.answer f .ok []))))
  ∧ (∀ (s : State) (n : Nat), (∀ t ∈ s.tickets, t.number ≠ n) → s.evaluateTicket n = s)
  ∧ ∀ (s : State) (n : Nat) (before after : List Ticket) (t : Ticket), s.tickets = before ++ t :: after →
    t.number = n → (∀ u ∈ before, u.number ≠ n) →
    let tr := t.transfer
    let standing := fun st : TicketState => ({ s with tickets := before ++ { t with state := st } :: after } : State)
    (t.state = .inFlight → s.evaluateTicket n = s)
    ∧ (t.state ≠ .inFlight →
      (∀ r,
        ((s.slot tr.slot).target = none ∧ r = .targetVacant)
        ∨ (∃ g, (s.slot tr.slot).target = some g ∧ g.standing = .fenced ∧ r = .targetFenced)
        ∨ (∃ g, (s.slot tr.slot).target = some g ∧ g.standing ≠ .fenced ∧ s.portState g.defn.port = .failed
          ∧ r = .portFailed)
        ∨ (∃ g, (s.slot tr.slot).target = some g ∧ g.standing ≠ .fenced ∧ s.portState g.defn.port ≠ .failed
          ∧ (g.defn.extent < tr.offset + tr.length ∨ g.defn.kind = .stream ∧ tr.offset ≠ 0) ∧ r = .range) →
        s.evaluateTicket n = { s with tickets := before ++ after, out := s.out.claim (.xferDone n r 0) })
      ∧ ∀ g, (s.slot tr.slot).target = some g → g.standing ≠ .fenced →
        tr.offset + tr.length ≤ g.defn.extent → (g.defn.kind = .stream → tr.offset = 0) →
        let p := g.defn.port
        (s.portState p = .disabled → s.evaluateTicket n = standing .waiting)
        ∧ (s.portState p ≠ .disabled → s.portState p ≠ .failed →
          (t.state = .candidate p → s.evaluateTicket n = s)
          ∧ (t.state ≠ .candidate p → s.portState p = .idle → s.evaluateTicket n =
            { standing (.candidate p) with arbiters := s.arbiters.set p { s.arbiter p with occasion := true } })
          ∧ (t.state ≠ .candidate p → s.portState p ≠ .idle → s.evaluateTicket n = standing (.candidate p))))

/-! ### Start-up (R181 to R188) -/

/-- HEADER_READ_DONE and BODY_PIECE_DONE settle the record of a boot memory read by the first outcome of R181 and R182 that
applies: an end of start-up with that outcome, the next body read on port A, or, with the whole body read and its CRC right,
phase EXECUTE. A boot memory read belongs to the Start-up Replay Unit and runs with the definition of R180 (the fields that
R180 does not give are the model's choice, log entry 30). -/
def Obligations.BootReadsSettled : Prop :=
  (∀ offset length position, bootRead offset length position =
    { owner := .replay, index := 0
      transfer := { op := .read, slot := 0, offset := offset, length := length, position := position }
      defn :=
        { port := .a, address := 0x50, kind := .memory, offsetWidth := 2, extent := 0, pageSize := 0, speed := .khz100
          stretchLimit := 10, cycleLimit := 0, retries := 0, fenceThreshold := 0 } })
  ∧ ∀ (s u : State) (lines : Lines) (r : Record), s.quiet = true → s.replay.system = .starting →
    s.replay.record = some r → u = { s with replay := { s.replay with record := none } } →
    (s.replay.phase = .header →
      (s.replay.abortRequested = true → exec (.headerReadDone lines) s = .next (u.endStartup .aborted 0 .ok))
      ∧ (s.replay.abortRequested = false →
        (r.result = .addrNak → exec (.headerReadDone lines) s = .next (u.endStartup .noScript 0 .ok))
        ∧ (r.result ≠ .addrNak → r.result ≠ .done → exec (.headerReadDone lines) s =
          .next (u.endStartup .readFault 0 .ok))
        ∧ (r.result = .done →
          ¬(s.replay.buffer.read 0 = 0x4A ∧ s.replay.buffer.read 1 = 0x51 ∧ s.replay.buffer.read 2 = 1
            ∧ s.replay.buffer.read 3 = 0) → exec (.headerReadDone lines) s = .next (u.endStartup .badHeader 0 .ok))
        ∧ (r.result = .done → s.replay.buffer.read 0 = 0x4A → s.replay.buffer.read 1 = 0x51 →
          s.replay.buffer.read 2 = 1 → s.replay.buffer.read 3 = 0 →
          let length := (s.replay.buffer.read 4).toNat + 256 * (s.replay.buffer.read 5).toNat
          (length = 0 ∨ 4088 < length → exec (.headerReadDone lines) s = .next (u.endStartup .tooLong 0 .ok))
          ∧ (1 ≤ length → length ≤ 4088 → exec (.headerReadDone lines) s =
            .next (({ u with replay := { u.replay with scriptLength := length, phase := .body } } :
              State).beginTransaction .a (bootRead 8 (min 256 length) 8) lines)))))
    ∧ (s.replay.phase = .body →
      let length := s.replay.scriptLength
      let got := s.replay.bytesRead + min 256 (length - s.replay.bytesRead)
      (s.replay.abortRequested = true → exec (.bodyPieceDone lines) s = .next (u.endStartup .aborted 0 .ok))
      ∧ (s.replay.abortRequested = false → r.result ≠ .done → exec (.bodyPieceDone lines) s =
        .next (u.endStartup .readFault 0 .ok))
      ∧ (s.replay.abortRequested = false → r.result = .done →
        (got < length → exec (.bodyPieceDone lines) s =
          .next (({ u with replay := { u.replay with bytesRead := got } } : State).beginTransaction .a
            (bootRead (8 + got) (min 256 (length - got)) (8 + got)) lines))
        ∧ (length ≤ got →
          let body := (List.range length).map (fun i => s.replay.buffer.read (8 + i))
          let field := (s.replay.buffer.read 6).toNat + 256 * (s.replay.buffer.read 7).toNat
          ((crc16 body).toNat = field → exec (.bodyPieceDone lines) s =
            .next { u with
              replay := { u.replay with bytesRead := got, phase := .execute, pointer := 8, index := 1 } })
          ∧ ((crc16 body).toNat ≠ field → exec (.bodyPieceDone lines) s =
            .next (({ u with replay := { u.replay with bytesRead := got } } : State).endStartup .crcFault 0 .ok)))))

/-- The end of start-up claims a START_REPORT with the outcome, the records executed, the failing index and status, and makes
the system READY with phase NONE. SCRIPT_RECORD in EXECUTE ends start-up with ABORTED, COMPLETE or BAD_RECORD, or executes the
record at the pointer: a status other than OK ends it with COMMAND_FAILED, OK moves pointer, index and count on and at the
script's end concludes COMPLETE. The ticket of an XFER record is evaluated before the Replay Unit takes the reply (the model's
choice, log entry 24). A record of an unknown kind is refused with UNKNOWN_KIND, then one of a wrong payload length with
BAD_LENGTH, then one of kind RESTART, ABORT_START or STATS with WRONG_STATE; any other is settled by its owner as the command
frame with that kind and payload is, on the state as the records before it have left it. -/
def Obligations.ScriptRecordRun : Prop :=
  (∀ (s : State) (o : StartOutcome) (i : Nat) (st : Status), s.endStartup o i st =
    { s with
      out := s.out.claim (.startReport o s.replay.executed i st)
      replay := { s.replay with phase := .none, abortRequested := false, system := .ready } })
  ∧ (∀ s : State, s.quiet = true → s.replay.system = .starting → s.replay.phase = .execute →
    s.interp.executing = false → s.out.restart = .none →
    let r := s.replay
    let length := (r.buffer.read r.pointer).toNat
    let endsAt := 8 + r.scriptLength
    (r.abortRequested = true → exec .scriptRecord s = .next (s.endStartup .aborted 0 .ok))
    ∧ (r.abortRequested = false → r.pointer = endsAt → exec .scriptRecord s = .next (s.endStartup .complete 0 .ok))
    ∧ (r.abortRequested = false → r.pointer ≠ endsAt →
      length < 3 ∨ 250 < length ∨ endsAt ≤ r.pointer + length ∨ (r.buffer.read (r.pointer + 1)).toNat ≠ 1 →
      exec .scriptRecord s = .next (s.endStartup .badRecord r.index .ok))
    ∧ (r.abortRequested = false → r.pointer ≠ endsAt → 3 ≤ length → length ≤ 250 → r.pointer + length < endsAt →
      (r.buffer.read (r.pointer + 1)).toNat = 1 →
      let reply := settleRecord (r.buffer.read (r.pointer + 3)).toNat
        ((List.range (length - 3)).map (fun i => r.buffer.read (r.pointer + 4 + i))) s
      (reply.status ≠ .ok → exec .scriptRecord s = .next (reply.state.endStartup .commandFailed r.index reply.status))
      ∧ (reply.status = .ok →
        let after := match reply.evaluate with
          | none => reply.state
          | some n => reply.state.evaluateTicket n
        let moved : State := { after with
          replay := { after.replay with
            executed := after.replay.executed + 1, pointer := after.replay.pointer + length + 1
            index := after.replay.index + 1 } }
        exec .scriptRecord s = .next
          (if after.replay.pointer + length + 1 = 8 + after.replay.scriptLength then moved.endStartup .complete 0 .ok
          else moved))))
  ∧ (∀ (s : State) (code : Nat) (payload : List Byte),
    let refused := fun st : Status =>
      settleRecord code payload s = { state := s, status := st, fields := [], evaluate := none }
    (commandKindOf code = none → refused .unknownKind)
    ∧ ∀ kind, commandKindOf code = some kind →
      (¬(kind.bounds.1 ≤ payload.length ∧ payload.length ≤ kind.bounds.2) → refused .badLength)
      ∧ (kind.bounds.1 ≤ payload.length → payload.length ≤ kind.bounds.2 →
        (kind ∈ [CommandKind.restart, .abortStart, .stats] → refused .wrongState)
        ∧ (kind ∉ [CommandKind.restart, .abortStart, .stats] → settleRecord code payload s = settleKind kind payload s)))
  ∧ ∀ (s : State) (kind : CommandKind) (f : CommandFrame) (rest : List CommandFrame), Takes s kind f rest →
    kind ∉ [CommandKind.restart, .abortStart, .stats] →
    let r := settleKind kind f.payload (s.takeOldest rest)
    let answered := r.state.answer f r.status r.fields
    (kind ≠ .xfer → r.evaluate = none)
    ∧ exec kind.step s = .next (match r.evaluate with
      | none => answered
      | some n => answered.evaluateTicket n)

/-! ### Sending (R139 to R148) -/

/-- A claim increases the created counter. It merges into the QUEUED notice of its subject, whose fields it replaces and whose
merge count increases up to 255; else it is stored at the end while fewer than 24 are held, under the first number from the
next notice number on, wrapping from 255 to 0, that no held notice has; else, at 24, a STATUS or ALARM displaces the oldest
QUEUED INFO, an ALARM without one the oldest QUEUED STATUS, and any other claim is itself discarded, which changes the
counters alone. ATTN_N is low exactly if an ALARM is then held; the mute state stays. Two claims have one subject exactly if
both are WATCH_HITs of one source, number and index, both PACE_OVERRUN, both HALF_PASS or both PASS_DONE of one channel, or
both INBOX_OVERFLOW. A block's claim is that, and then the transmitter's choice: that an idle transmitter chooses in the same
step is the model's choice (log entry 40). -/
def Obligations.ClaimSettled : Prop :=
  (∀ (q : NoticeQueue) (k : NoticeKind),
    let created := { q.counters with created := q.counters.created + 1 }
    let mergeable := fun (m : Notice) => m.inWindow = false ∧ k.subject ≠ none ∧ m.kind.subject = k.subject
    let queued := fun (cls : NoticeClass) (m : Notice) => m.inWindow = false ∧ m.kind.noticeClass = cls
    let storedAfter := fun (kept : List Notice) (counters : NoticeCounters) =>
      ∃ i n, i ≤ kept.length ∧ n = (q.nextNumber + i) % 256 ∧ (∀ m ∈ kept, m.number ≠ n)
        ∧ (∀ j, j < i → ∃ m ∈ kept, m.number = (q.nextNumber + j) % 256)
        ∧ (let held := kept ++
              [{ number := n, kind := k, merges := 0, transmissions := 0, inWindow := false, timer := .none }]
          q.settle k =
            { held := held, nextNumber := (n + 1) % 256, muted := q.muted, counters := counters
              attnLow := held.any (fun m => m.kind.noticeClass == .alarm) })
    let discarding := { created with discarded := q.counters.discarded + 1 }
    (∀ before m after, q.held = before ++ m :: after → mergeable m → (∀ x ∈ before, ¬mergeable x) →
      q.settle k =
        { q with
          held := before ++ { m with kind := k, merges := min (m.merges + 1) 255 } :: after
          counters := { created with merged := q.counters.merged + 1 } })
    ∧ ((∀ m ∈ q.held, ¬mergeable m) →
      (q.held.length < 24 → storedAfter q.held created)
      ∧ (q.held.length = 24 →
        (∀ before m after, q.held = before ++ m :: after → k.noticeClass ≠ .info → queued .info m →
          (∀ x ∈ before, ¬queued .info x) → storedAfter (before ++ after) discarding)
        ∧ (∀ before m after, q.held = before ++ m :: after → k.noticeClass = .alarm → queued .status m →
          (∀ x ∈ q.held, ¬queued .info x) → (∀ x ∈ before, ¬queued .status x) →
          storedAfter (before ++ after) discarding)
        ∧ (k.noticeClass = .info ∨ (k.noticeClass = .status ∧ ∀ x ∈ q.held, ¬queued .info x)
            ∨ (∀ x ∈ q.held, ¬queued .info x ∧ ¬queued .status x) →
          q.settle k = { q with counters := discarding }))))
  ∧ (∀ k m : NoticeKind, (k.subject ≠ none ∧ m.subject = k.subject) ↔
    (∃ t n i x y u v, k = .watchHit t n i x y ∧ m = .watchHit t n i u v)
    ∨ (∃ c x y, k = .paceOverrun c x ∧ m = .paceOverrun c y) ∨ (∃ c x y, k = .halfPass c x ∧ m = .halfPass c y)
    ∨ (∃ c x y, k = .passDone c x ∧ m = .passDone c y) ∨ (∃ x y, k = .inboxOverflow x ∧ m = .inboxOverflow y))
  ∧ (∀ (o : Outbound) (k : NoticeKind), o.claim k = ({ o with notices := o.notices.settle k } : Outbound).choose)
  ∧ ∀ (s : State) (k : NoticeKind), s.claim k = { s with out := s.out.claim k }
    ∧ s.claimIf true k = s.claim k ∧ s.claimIf false k = s

/-- FRAME_END: after a reply frame the slot is EMPTY, after a notice frame the notice, still in WINDOW, starts its 250 ms
timer, but not one that has become due meanwhile (the model's choice, log entry 25); then the transmitter chooses, unless the
frame was the reply to RESTART or the interpreter's taking of a waiting frame comes first; then the choice waits for that
command's reply (the model's choice, log entry 21). Only the sending side changes. -/
def Obligations.FrameEnds : Prop :=
  ∀ (s : State) (first : Bool) (x : Sending), s.quiet = true → s.out.sending = some x →
    (x.source = .reply →
      (s.out.restart = .executed → exec (.frameEnd first) s =
        .next { s with out := { s.out with sending := none, reply := .empty, restart := .replyGone } })
      ∧ (s.out.restart ≠ .executed → first = true → s.link.inbox ≠ [] → exec (.frameEnd first) s =
        .next { s with out := { s.out with sending := none, reply := .empty, takingNext := true } })
      ∧ (s.out.restart ≠ .executed → first = false ∨ s.link.inbox = [] → exec (.frameEnd first) s =
        .next { s with out := ({ s.out with sending := none, reply := .empty } : Outbound).choose }))
    ∧ ∀ n, x.source = .notice n → exec (.frameEnd first) s =
      .next { s with
        out := ({ s.out with
          sending := none
          notices := { s.out.notices with
            held := modifyFirst (fun m => m.inWindow && m.number == n && m.timer == .none)
              (fun m => { m with timer := .running 251 }) s.out.notices.held } } : Outbound).choose }

/-- At an occasion of an idle transmitter that waits neither for the effect of RESTART nor for the interpreter's taking: a
PENDING reply is sent; else in MUTE nothing; else the oldest due WINDOW notice, counted as a retransmission; else, with fewer
than 4 in WINDOW, the oldest QUEUED notice of the highest class held; a notice sent is in WINDOW with one transmission more
and no timer, and its frame, with the discarded stamp, is on the link; nothing else of the sending side changes. With 4 in
WINDOW and none due, and with none due and none QUEUED, the transmitter stays idle; and while a frame is being sent no choice
is made, nor after the reply to RESTART has gone (that other steps may stand between it and the effect is the model's reading:
DEDUCED, log entry 31), nor while the transmitter waits for the interpreter's taking, which came first at the end of a reply
frame (that the choice waits so is the model's choice, log entry 21). A notice frame carries class NOTICE, the number, the
code of the kind, its class, merges, transmissions, the stamp and the fields of its kind; the class of a START_REPORT follows
its outcome. -/
def Obligations.TransmitterChooses : Prop :=
  let one := fun n : Nat => [BitVec.ofNat 8 n]
  let two := fun n : Nat => [BitVec.ofNat 8 n, BitVec.ofNat 8 (n / 256)]
  let laidOut := fun (k : NoticeKind) (code : Nat) (cls : NoticeClass) (fields : List Byte) =>
    k.code = code ∧ k.noticeClass = cls ∧ k.fields = fields
  (∀ (n : Notice) (stamp : Nat), n.frame stamp =
    frameBytes ([0x03] ++ one n.number ++ one n.kind.code ++ one n.kind.noticeClass.code ++ one n.merges
      ++ one n.transmissions ++ two stamp ++ n.kind.fields))
  ∧ [NoticeClass.alarm, .status, .info].map NoticeClass.code = [1, 2, 3]
  ∧ (∀ c pos r sl att,
    laidOut (.channelHalted c pos r sl) 1 .alarm (one c.val ++ one pos ++ one r.code ++ one sl.val)
    ∧ laidOut (.descFailed c pos r sl att) 5 .status (one c.val ++ one pos ++ one r.code ++ one sl.val ++ one att)
    ∧ laidOut (.targetFenced sl r) 2 .alarm (one sl.val ++ one r.code))
  ∧ (∀ p n, laidOut (.portFailed p) 3 .alarm (one (portCode p))
    ∧ laidOut (.portRecovered p n) 9 .status (one (portCode p) ++ one n))
  ∧ (∀ o n i st, laidOut (.startReport o n i st) 4
    (if o = .complete ∨ o = .skipped ∨ o = .noScript then .status else .alarm)
    (one o.code ++ two n ++ two i ++ one st.code))
  ∧ [StartOutcome.complete, .skipped, .noScript, .badHeader, .tooLong, .readFault, .crcFault, .badRecord, .commandFailed,
      .aborted].map StartOutcome.code = [0, 1, 2, 3, 4, 5, 6, 7, 8, 9]
  ∧ (∀ n r moved, laidOut (.xferDone n r moved) 6 .status (one n ++ one r.code ++ two moved))
  ∧ (∀ t n i m reading, laidOut (.watchHit t n i m reading) 7 .status
    (one (if t then 1 else 0) ++ one n ++ one i ++ one m.code ++ one reading.length ++ reading))
  ∧ (∀ c n, laidOut (.paceOverrun c n) 8 .status (one c.val ++ two n)
    ∧ laidOut (.halfPass c n) 10 .info (one c.val ++ two n) ∧ laidOut (.passDone c n) 11 .info (one c.val ++ two n)
    ∧ laidOut (.inboxOverflow n) 12 .info (two n))
  ∧ (∀ o : Outbound, o.sending ≠ none ∨ o.restart = .replyGone ∨ o.takingNext = true → o.choose = o)
  ∧ ∀ o : Outbound, o.sending = none → o.restart ≠ .replyGone → o.takingNext = false →
    let stamp := min o.notices.counters.discarded.toNat 65535
    (∀ r, o.reply = .pending r → o.choose =
      { o with reply := .sending r, sending := some { source := .reply, bytes := r.frame } })
    ∧ ((∀ r, o.reply ≠ .pending r) →
      (o.notices.muted = true → o.choose = o)
      ∧ (o.notices.muted = false → ∀ before n after, o.notices.held = before ++ n :: after →
        (n.inWindow = true → n.timer = .due → (∀ m ∈ before, ¬(m.inWindow = true ∧ m.timer = .due)) →
          let again : Notice := { n with transmissions := n.transmissions + 1, timer := .none }
          o.choose = { o with
            notices := { o.notices with
              held := before ++ again :: after
              counters := { o.notices.counters with
                retransmissions := o.notices.counters.retransmissions + 1 } }
            sending := some { source := .notice n.number, bytes := again.frame stamp } })
        ∧ (n.inWindow = false → (∀ m ∈ o.notices.held, ¬(m.inWindow = true ∧ m.timer = .due)) →
          windowCount o.notices.held < 4 →
          (∀ m ∈ o.notices.held, m.inWindow = false → n.kind.noticeClass.code ≤ m.kind.noticeClass.code) →
          (∀ m ∈ before, m.inWindow = false → m.kind.noticeClass ≠ n.kind.noticeClass) →
          let first : Notice := { n with inWindow := true, transmissions := n.transmissions + 1, timer := .none }
          o.choose = { o with
            notices := { o.notices with held := before ++ first :: after }
            sending := some { source := .notice n.number, bytes := first.frame stamp } }))
      ∧ (o.notices.muted = false → (∀ m ∈ o.notices.held, ¬(m.inWindow = true ∧ m.timer = .due)) →
        4 ≤ windowCount o.notices.held ∨ (∀ m ∈ o.notices.held, m.inWindow = true) → o.choose = o))

/-- RETRANSMIT_TIMER_EXPIRY of a WINDOW notice whose timer has run out: with 1 to 3 transmissions it becomes due; with 4 it
does not, and an OPEN link enters MUTE and counts it. Then the transmitter may choose. -/
def Obligations.RetransmitTimerExpires : Prop :=
  ∀ (s : State) (before after : List Notice) (n : Notice), s.operating = true →
    s.out.notices.held = before ++ n :: after → n.inWindow = true → n.timer = .running 0 →
    (∀ m ∈ before, m.number ≠ n.number) →
    (n.transmissions < 4 → exec (.retransmitTimerExpiry n.number) s =
      .next { s with
        out := ({ s.out with
          notices := { s.out.notices with held := before ++ { n with timer := .due } :: after } } : Outbound).choose })
    ∧ (4 ≤ n.transmissions → exec (.retransmitTimerExpiry n.number) s =
      .next { s with
        out := ({ s.out with
          notices := { s.out.notices with
            held := before ++ { n with timer := .none } :: after
            muted := true
            counters := { s.out.notices.counters with
              muteEntries :=
                if s.out.notices.muted then s.out.notices.counters.muteEntries
                else s.out.notices.counters.muteEntries + 1 } } } : Outbound).choose })

/-! ### The Channel Controller and the owners of completions (R18 to R23, R29, R37, R38, R69, R120, R121) -/

/-- PAUSE_EXPIRY of a PAUSING head whose timer has run out completes the PAUSE with DONE, 0 bytes and 0 attempts; PASS_GAP_END
of a pass gap that has run out begins a pass. Both act while taking the effect of a tick. -/
def Obligations.ChannelIntervalsEnd : Prop :=
  ∀ (s : State) (c : ChannelIx), s.operating = true → (s.channel c).state = .running →
    ((s.channel c).head = .pausing → (s.channel c).pauseTimer = some 0 →
      exec (.pauseExpiry c) s = .next
        ((s.setChannel c { s.channel c with
          lastResult := some { result := .done, moved := 0, attempts := 0 }, head := .none, pauseTimer := none
          arriving := none }).finishAndGoOn true c))
    ∧ ((s.channel c).head = .none → (s.channel c).passGap = some 0 →
      exec (.passGapEnd c) s = .next
        ((s.setChannel c { s.channel c with
          state := .running, position := 0, doneInPass := 0, head := .none, passGap := none }).serveHead true c))

/-- A head that finishes advances position and done-in-pass and raises HALF_PASS, if wanted, when done-in-pass reaches half of
a ring of at least 2; the last one of the ring ends the pass: the pass count increases, PASS_DONE is raised if wanted,
position and done-in-pass return to 0, and the channel goes to OFF under ONCE, to PACED with a pacer, else into a pass gap of
one tick; any other is followed by the service of the next head. -/
def Obligations.HeadFinished : Prop :=
  ∀ (s : State) (inTick : Bool) (c : ChannelIx),
    let ch := s.channel c
    let n := ch.ring.length
    let half := decide (2 ≤ n ∧ ch.doneInPass + 1 = n / 2) && ch.wants.half
    let passes := min (ch.passCount + 1) 65535
    let stepped := (s.setChannel c
      { ch with position := ch.position + 1, doneInPass := ch.doneInPass + 1 }).claimIf half (.halfPass c ch.passCount)
    (ch.position + 1 < n → s.finishHead c = stepped ∧ s.finishAndGoOn inTick c = stepped.serveHead inTick c)
    ∧ (n ≤ ch.position + 1 →
      let ended := { ch with passCount := passes, position := 0, doneInPass := 0 }
      let passed := (stepped.setChannel c ended).claimIf ch.wants.pass (.passDone c passes)
      s.finishHead c = passed
      ∧ (ch.mode = .once → s.finishAndGoOn inTick c = passed.setChannel c { ended with state := .off, head := .none })
      ∧ (ch.mode = .circular → ch.pacer ≠ none → s.finishAndGoOn inTick c =
        passed.setChannel c { ended with state := .paced, head := .none })
      ∧ (ch.mode = .circular → ch.pacer = none → s.finishAndGoOn inTick c =
        passed.setChannel c { ended with state := .running, head := .none, passGap := some 1 }))

/-- CHANNEL_COMPLETION and TICKET_COMPLETION take the record handed on. A RUNNING channel stores it and finishes the head on
DONE, or holds after a holding WATCH's hit, or applies its failure policy; a STOPPING channel goes to OFF at its position; a
ticket is removed and XFER_DONE is raised with its number, result and bytes moved. -/
def Obligations.CompletionsTaken : Prop :=
  (∀ (ch : Channel) (d : Descriptor), ch.ring[ch.position]? = some d →
    (∀ t, d = .transfer t → ch.headTransfer = some t ∧ ch.headSlot = t.slot
      ∧ (ch.headHolds = true ↔ ∃ mode, t.op = .watch mode true))
    ∧ ∀ ms, d = .pause ms → ch.headTransfer = none ∧ ch.headHolds = false)
  ∧ (∀ (s u : State) (c : ChannelIx) (a : Arrival), s.quiet = true → (s.channel c).arriving = some a →
    u = s.setChannel c { s.channel c with
      lastResult := some a.record, head := .none, pauseTimer := none, arriving := none } →
    let failed := min ((s.channel c).failureCount + 1) 65535
    let counted := u.setChannel c { u.channel c with failureCount := failed }
    let reported := counted.claimIf (s.channel c).wants.fail
      (.descFailed c (s.channel c).position a.record.result (s.channel c).headSlot a.record.attempts)
    ((s.channel c).state = .running →
      (a.record.result = .done → ¬(a.outcome = some .hit ∧ (s.channel c).headHolds = true) →
        exec (.channelCompletion c) s = .next (u.finishAndGoOn false c))
      ∧ (a.record.result = .done → a.outcome = some .hit → (s.channel c).headHolds = true →
        exec (.channelCompletion c) s = .next ((u.finishHead c).setChannel c
          { (u.finishHead c).channel c with
            state := .halted, haltReason := some .watchHold
            heldPassEnd := decide ((s.channel c).ring.length ≤ (s.channel c).position + 1) }))
      ∧ (a.record.result ≠ .done → (s.channel c).policy = .halt → exec (.channelCompletion c) s =
        .next ((counted.setChannel c { counted.channel c with state := .halted, haltReason := some .failure }).claim
          (.channelHalted c (s.channel c).position a.record.result (s.channel c).headSlot)))
      ∧ (a.record.result ≠ .done → (s.channel c).policy = .skip → exec (.channelCompletion c) s =
        .next (reported.finishAndGoOn false c)))
    ∧ ((s.channel c).state = .stopping →
      (a.record.result = .done ∨ a.record.result = .aborted → exec (.channelCompletion c) s =
        .next (u.setChannel c { u.channel c with state := .off }))
      ∧ (a.record.result ≠ .done → a.record.result ≠ .aborted → exec (.channelCompletion c) s =
        .next ((u.setChannel c { u.channel c with state := .off, failureCount := failed }).claimIf
          (s.channel c).wants.fail
          (.descFailed c (s.channel c).position a.record.result (s.channel c).headSlot a.record.attempts)))))
  ∧ ∀ (s : State) (n : Nat) (t : Ticket) (r : Record), s.quiet = true → s.ticket n = some t → t.arrived = some r →
    exec (.ticketCompletion n) s =
      .next { s with
        tickets := s.tickets.eraseP (fun u => u.number == n)
        out := s.out.claim (.xferDone n r.result r.moved) }

/-- TARGET_ACCOUNTING takes the record that a port's engine has made, clears the slot's mark and accounts the result: DONE
sets the count to 0 and makes SUSPECT ONLINE; a NAK, STRETCH_TIMEOUT or CYCLE_TIMEOUT increases the count, to SUSPECT below
the threshold and to FENCED at it, with TARGET_FENCED and an announcement; on a FENCED slot it stays FENCED and the count does
not pass the threshold; any other result leaves state and count. Then the record goes unchanged to its owner: with its watch
outcome it is the record that the owning channel has still to take, or the owning ticket, and nothing else changes (that it
waits there for the owner's step is log entry 14). -/
def Obligations.ResultAccounted : Prop :=
  (∀ (s : State) (m : MadeRecord),
    (∀ c, m.owner = .channel c → s.deliver m =
      { s with
        channels := s.channels.set c { s.channel c with arriving := some { record := m.record, outcome := m.outcome } } })
    ∧ (∀ n, m.owner = .ticket n →
      (∀ before t after, s.tickets = before ++ t :: after → t.number = n → (∀ x ∈ before, x.number ≠ n) →
        s.deliver m = { s with tickets := before ++ { t with arrived := some m.record } :: after })
      ∧ ((∀ t ∈ s.tickets, t.number ≠ n) → s.deliver m = s))
    ∧ (m.owner = .replay → s.deliver m = s))
  ∧ ∀ (s : State) (p : Port) (m : MadeRecord) (t : Target), s.quiet = true → (s.engine p).record = some m →
    (s.slot m.slot).target = some t →
    let taken' : State := { s with engines := s.engines.set p { s.engine p with record := none } }
    let counts := m.record.result = .addrNak ∨ m.record.result = .offsetNak ∨ m.record.result = .dataNak
      ∨ m.record.result = .stretchTimeout ∨ m.record.result = .cycleTimeout
    let withTarget := fun x : Target =>
      { taken' with slots := s.slots.set m.slot { target := some x, inFlight := false } }
    (m.record.result = .done → exec (.targetAccounting p) s = .next
      ((withTarget { t with
        count := 0, standing := if t.standing = .fenced then .fenced else .online }).deliver m))
    ∧ (counts → t.standing ≠ .fenced → t.count + 1 < t.defn.fenceThreshold → exec (.targetAccounting p) s = .next
      ((withTarget { t with count := t.count + 1, standing := .suspect }).deliver m))
    ∧ (counts → t.standing ≠ .fenced → t.defn.fenceThreshold ≤ t.count + 1 → exec (.targetAccounting p) s = .next
      ((((withTarget { t with count := t.count + 1, standing := .fenced }).claim
        (.targetFenced m.slot m.record.result)).announceSlot m.slot).deliver m))
    ∧ (counts → t.standing = .fenced → t.count ≤ t.defn.fenceThreshold → exec (.targetAccounting p) s = .next
      ((withTarget { t with count := min (t.count + 1) t.defn.fenceThreshold }).deliver m))
    ∧ (m.record.result ≠ .done → ¬counts → exec (.targetAccounting p) s = .next ((withTarget t).deliver m))

/-- SLOT_ANNOUNCEMENT and PORT_ANNOUNCEMENT take the announcement, each announced change once (log entries 13 and 35), and
re-evaluate, one after another in the order given and then the others (log entry 10), the heads of RUNNING channels that wait
or are candidates and the QUEUED tickets whose target is meant, with slots and ports as they stand: such a head is served, and
such a ticket evaluated. No head ON_PORT or PAUSING, no IN_FLIGHT ticket and no channel that is not RUNNING is touched. -/
def Obligations.AnnouncementsTaken : Prop :=
  (∀ (s : State) (n : SlotIx) (order : List Party), s.quiet = true → n ∈ s.slotNews →
    exec (.slotAnnouncement n order) s = .next
      (((order ++ s.allParties).eraseDups).foldl (reevaluateParty (fun t => t.slot == n))
        { s with slotNews := s.slotNews.erase n }))
  ∧ (∀ (s : State) (p : Port) (order : List Party) (st : PortState) (rest : List PortState), s.quiet = true →
    s.portNews.get p = st :: rest →
    exec (.portAnnouncement p order) s = .next
      (((order ++ s.allParties).eraseDups).foldl
        (reevaluateParty (fun t => (s.slot t.slot).target.any (fun g => g.defn.port == p)))
        { s with portNews := s.portNews.set p rest }))
  ∧ (∀ s : State, s.allParties =
    [.channel 0, .channel 1, .channel 2, .channel 3, .channel 4, .channel 5, .channel 6, .channel 7]
      ++ s.tickets.map (fun t => .ticket t.number))
  ∧ (∀ (s : State) (sel : Transfer → Bool) (c : ChannelIx) (t : Transfer),
    (s.channel c).state = .running → (s.channel c).head = .waiting ∨ (∃ q, (s.channel c).head = .candidate q) →
    (s.channel c).headTransfer = some t → sel t = true → reevaluateParty sel s (.channel c) = s.serveHead false c)
  ∧ (∀ (s : State) (sel : Transfer → Bool) (c : ChannelIx),
    (s.channel c).state ≠ .running ∨ (s.channel c).head = .none ∨ (s.channel c).head = .pausing
      ∨ (∃ q, (s.channel c).head = .onPort q) ∨ (∀ t, (s.channel c).headTransfer = some t → sel t = false) →
    reevaluateParty sel s (.channel c) = s)
  ∧ (∀ (s : State) (sel : Transfer → Bool) (n : Nat) (t : Ticket),
    s.ticket n = some t → t.state ≠ .inFlight → sel t.transfer = true →
    reevaluateParty sel s (.ticket n) = s.evaluateTicket n)
  ∧ ∀ (s : State) (sel : Transfer → Bool) (n : Nat),
    (∀ t, s.ticket n = some t → t.state = .inFlight ∨ sel t.transfer = false) →
    reevaluateParty sel s (.ticket n) = s

/-! ### Grants (R58 to R61) -/

/-- GRANT_OCCASION at an IDLE port whose last record has been handed on and whose candidates await no announcement of their
slot, nor of the port's failure or disabling (log entries 11 and 12): the eligible ticket accepted earliest is granted, else
the eligible head of highest priority and lowest channel number. The grant claims the busy range, sets the slot's mark and the
current grant, marks the winner, and the engine takes the transaction with the slot's definition. Without an eligible
candidate, and at a port that is not IDLE, the occasion passes with no effect. An engine that takes a transaction holds none
of an earlier one: nothing confirmed or moved, the scratch cleared, no abort requested or on its way (log entry 15); with both
lines high its port is BUSY in the first attempt, in phase START, of a memory write with the first segment, from the offset to
the end of its page or of the write; with a line low the port is RECOVERING, the transaction pending with no attempt made. -/
def Obligations.PortGranted : Prop :=
  (∀ (s : State) (p : Port), s.occasionReady p = true ↔
    (s.arbiter p).occasion = true ∧ (s.engine p).record = none
    ∧ (∀ x ∈ s.tickets, x.state = .candidate p → x.transfer.slot ∉ s.slotNews)
    ∧ (∀ c t, (s.channel c).head = .candidate p → (s.channel c).headTransfer = some t → t.slot ∉ s.slotNews)
    ∧ PortState.failed ∉ s.portNews.get p ∧ PortState.disabled ∉ s.portNews.get p)
  ∧ (∀ t : Transfer, t.busyRange =
    match t.op with
    | .read => { first := t.position, length := t.length, direction := .writes }
    | .write => { first := t.position, length := t.length, direction := .reads }
    | .watch _ _ => { first := t.position, length := 3 * t.length, direction := .writes })
  ∧ (∀ r q : BusyRange, r.conflicts q = true ↔
    r.first < q.first + q.length ∧ q.first < r.first + r.length ∧ (r.direction = .writes ∨ q.direction = .writes))
  ∧ (∀ (s : State) (p : Port) (t : Transaction) (lines : Lines),
    let offset := t.transfer.offset
    let news := if s.portState p = .busy then s.portNews.get p else s.portNews.get p ++ [PortState.busy]
    let held := { s.engine p with
      transaction := some t, attempts := 0, segment := none, confirmed := 0, moved := 0, abortRequested := false
      scratch := List.replicate 16 0, recovery := none, stretchTimer := none, cycleTimer := none, cycleExpired := false
      abortRequests := [] }
    (lines.bothHigh = true → s.beginTransaction p t lines =
      { s with
        engines := s.engines.set p
          { held with
            portState := .busy, activity := .formStart, attempts := 1, waitTimer := none
            segment :=
              if t.defn.kind = .memory ∧ t.transfer.op = .write then
                some { first := offset, place := 1
                       length := min t.transfer.length (t.defn.pageSize - offset % t.defn.pageSize) }
              else none }
        portNews := s.portNews.set p news })
    ∧ (lines.bothHigh = false → s.beginTransaction p t lines =
      { s with
        engines := s.engines.set p
          { held with
            portState := .recovering, activity := .none, waitTimer := some 2
            recovery := some { attempt := 1, pulses := 0, step := .clockWait } }
        portNews := s.portNews.set p (news ++ [PortState.recovering]) }))
  ∧ ∀ (s : State) (p : Port) (lines : Lines), s.quiet = true → s.occasionReady p = true →
    let passed : State := { s with arbiters := s.arbiters.set p { s.arbiter p with occasion := false } }
    let free := fun t : Transfer => ∀ q r, s.busy.get q = some r → t.busyRange.conflicts r = false
    let granted := fun (u : State) (o : Owner) (index : Nat) (t : Transfer) (d : Definition) =>
      ({ u with
        busy := s.busy.set p (some t.busyRange)
        slots := s.slots.set t.slot { s.slot t.slot with inFlight := true }
        arbiters := s.arbiters.set p { grant := some o, occasion := false } } : State).beginTransaction p
          { owner := o, index := index, transfer := t, defn := d } lines
    (s.portState p ≠ .idle → exec (.grantOccasion p lines) s = .next passed)
    ∧ (s.portState p = .idle →
      (∀ before t after g, s.tickets = before ++ t :: after → t.state = .candidate p → free t.transfer →
        (∀ x ∈ before, x.number ≠ t.number ∧ (x.state = .candidate p → ¬free x.transfer)) →
        (s.slot t.transfer.slot).target = some g →
        exec (.grantOccasion p lines) s = .next
          (granted { s with tickets := before ++ { t with state := .inFlight } :: after } (.ticket t.number) 0
            t.transfer g.defn))
      ∧ ((∀ x ∈ s.tickets, x.state = .candidate p → ¬free x.transfer) →
        (∀ c t g, (s.channel c).head = .candidate p → (s.channel c).headTransfer = some t → free t →
          (∀ k u, (s.channel k).head = .candidate p → (s.channel k).headTransfer = some u → free u →
            (s.channel k).priority.rank < (s.channel c).priority.rank
              ∨ ((s.channel k).priority = (s.channel c).priority ∧ c ≤ k)) →
          (s.slot t.slot).target = some g →
          exec (.grantOccasion p lines) s = .next
            (granted { s with channels := s.channels.set c { s.channel c with head := .onPort p } } (.channel c)
              (s.channel c).position t g.defn))
        ∧ ((∀ c t, (s.channel c).head = .candidate p → (s.channel c).headTransfer = some t → ¬free t) →
          exec (.grantOccasion p lines) s = .next passed)))

/-! ### The bus procedure (R75 to R94) -/

/-- BYTE_COMPLETE on a BUSY port. An acknowledged address byte leads to the data bytes received, the offset bytes or the data
bytes sent, an acknowledged offset byte to the next one, the repeated START or the data, an acknowledged data byte counts as
moved and leads to the next or to the STOP; a NAK leads to the STOP that closes the attempt with its result. A byte received,
its first bit the most significant, counts as moved and is stored: by a READ at its staging position, by a boot memory read in
the script buffer, by a WATCH in the scratch area; the last one leads to the STOP. After an abort request the STOP follows the
byte, or in a read one more byte. Whatever follows, no stretch is under way (how stretches are timed is log entry 9). A byte
at a position above 8191 is a fault (the model's choice, log entry 26). -/
def Obligations.ByteClocked : Prop :=
  (∀ (e : Engine) (t : Transaction) (k : Nat),
    (t.segmented = true ↔ t.defn.kind = .memory ∧ t.transfer.op = .write)
    ∧ e.sourcePosition t k = t.transfer.position + (if t.segmented then e.confirmed else 0) + k
    ∧ (t.segmented = false → e.dataOutLength t = t.transfer.length)
    ∧ ∀ sg, t.segmented = true → e.segment = some sg → e.dataOutLength t = sg.length)
  ∧ ∀ (s : State) (p : Port) (bits : List Bool) (ack : Bool) (t : Transaction), s.quiet = true →
    s.portState p = .busy → (s.engine p).transaction = some t →
    let e := s.engine p
    let data := byteOfBits bits
    let moved := fun (e : Engine) (a : Activity) =>
      s.setEngine p { e with activity := a, waitTimer := none, stretchTimer := none }
    let orAbort := fun (a : Activity) => if e.abortRequested then .formStop .aborted else a
    let counted := { e with moved := e.moved + 1 }
    (∀ read again, e.activity = .address read again → exec (.byteComplete p bits ack) s = .next (moved e (orAbort
      (if ack then (if read then .dataIn 0 else if 0 < t.defn.offsetWidth then .offset 0 else .dataOut 0)
      else .formStop (.nak (if again then .dataNak else .addrNak))))))
    ∧ (∀ k, e.activity = .offset k → exec (.byteComplete p bits ack) s = .next (moved e (orAbort
      (if ack then
        (if k + 1 < t.defn.offsetWidth then .offset (k + 1)
        else if t.transfer.op ≠ .write then .formRestart else .dataOut 0)
      else .formStop (.nak .offsetNak)))))
    ∧ (∀ k, e.activity = .dataOut k → t.owner ≠ .replay →
      (8192 ≤ e.sourcePosition t k → exec (.byteComplete p bits ack) s = .fault (.stagingOutOfRange p))
      ∧ (e.sourcePosition t k < 8192 →
        (ack = true → exec (.byteComplete p bits ack) s = .next (moved counted (orAbort
          (if k + 1 < e.dataOutLength t then .dataOut (k + 1)
          else .formStop (if t.segmented then .segment else .final)))))
        ∧ (ack = false → exec (.byteComplete p bits ack) s = .next (moved e (orAbort (.formStop (.nak .dataNak)))))))
    ∧ (∀ k, e.activity = .dataIn k →
      let next := if t.transfer.length ≤ k + 1 then .formStop .final
        else if e.abortRequested then .dataInExtra else .dataIn (k + 1)
      (t.transfer.op = .read → t.owner ≠ .replay →
        (8192 ≤ t.transfer.position + k → exec (.byteComplete p bits ack) s = .fault (.stagingOutOfRange p))
        ∧ (t.transfer.position + k < 8192 → exec (.byteComplete p bits ack) s =
          .next { moved counted next with staging := s.staging.write (t.transfer.position + k) data }))
      ∧ (t.transfer.op = .read → t.owner = .replay → exec (.byteComplete p bits ack) s =
        .next { moved counted next with
          replay := { s.replay with buffer := s.replay.buffer.write (t.transfer.position + k) data } })
      ∧ (∀ mode hold, t.transfer.op = .watch mode hold → exec (.byteComplete p bits ack) s =
        .next (moved { counted with scratch := e.scratch.set k data } next)))
    ∧ (e.activity = .dataInExtra → exec (.byteComplete p bits ack) s = .next (moved e (.formStop .aborted)))

/-- What an engine puts on its bus. The byte it sends: the address byte with the direction in its lowest bit, that of a cycle
poll with direction write; the offset with its high byte first; the data byte as staging memory holds it as it is sent, from
the staging position of the write, or of the segment after the bytes confirmed. The acknowledge bit it drives: ACK after each
byte received but the last, NAK after that one. The levels of a BUSY port's lines: those of START, repeated START and STOP; a
byte's eight bits, the most significant first, each with its clock low and then released, and the acknowledge bit; a poll's
STOP after its byte; at the speed of the target's definition. A byte received has the value of its bits, the first the most
significant. That the levels are given as the row of them that a step signals, the START's row also before a segment or a poll
whose START is not begun, is the model's choice (log entry 29). In a recovery a pulse leaves the data line released, and the
STOP is formed, at 100 kHz. -/
def Obligations.BytesOnTheBus : Prop :=
  let bit := fun v : Bool => [({ clock := false, data := v } : Lines), { clock := true, data := v }]
  let stop := [({ clock := false, data := false } : Lines), { clock := true, data := false }, { clock := true, data := true }]
  (∀ (s : State) (p : Port) (t : Transaction), (s.engine p).transaction = some t →
    let e := s.engine p
    (∀ read again, e.activity = .address read again →
      s.byteSent p = some (BitVec.ofNat 8 (2 * t.defn.address + (if read then 1 else 0))))
    ∧ (e.activity = .poll → s.byteSent p = some (BitVec.ofNat 8 (2 * t.defn.address)))
    ∧ (∀ k sent, e.activity = .offset k →
      (t.segmented = true → ∃ sg, e.segment = some sg ∧ sg.first = sent) →
      (t.segmented = false → sent = t.transfer.offset) →
      (t.defn.offsetWidth = 1 → s.byteSent p = some (BitVec.ofNat 8 sent))
      ∧ (t.defn.offsetWidth = 2 → k = 0 → s.byteSent p = some (BitVec.ofNat 8 (sent / 256)))
      ∧ (t.defn.offsetWidth = 2 → k = 1 → s.byteSent p = some (BitVec.ofNat 8 sent)))
    ∧ (∀ k, e.activity = .dataOut k →
      s.byteSent p = some (s.staging.read
        (t.transfer.position + (if t.defn.kind = .memory ∧ t.transfer.op = .write then e.confirmed else 0) + k)))
    ∧ (∀ k, e.activity = .dataIn k → s.ackDriven p = some (decide (k + 1 < t.transfer.length)))
    ∧ (e.activity = .dataInExtra → s.ackDriven p = some false)
    ∧ (s.portState p = .busy →
      (e.activity = .formStart ∨ e.activity = .beforeSegment ∨ e.activity = .betweenPolls ∨ e.activity = .pollStart →
        s.signal p = [{ clock := true, data := true }, { clock := true, data := false }])
      ∧ (e.activity = .formRestart → s.signal p =
        [{ clock := false, data := true }, { clock := true, data := true }, { clock := true, data := false }])
      ∧ ((∃ c, e.activity = .formStop c) ∨ e.activity = .stretchStop → s.signal p = stop)
      ∧ (∀ b, s.byteSent p = some b → s.signal p =
        (((List.range 8).map (fun i => b.getLsbD (7 - i))).flatMap bit ++ bit true)
          ++ (if e.activity = .poll then stop else []))
      ∧ (∀ ack, s.ackDriven p = some ack → s.signal p = (List.replicate 8 true).flatMap bit ++ bit (!ack))
      ∧ s.clockRate p = some t.defn.speed))
  ∧ (∀ b : Byte, byteOfBits ((List.range 8).map (fun i => b.getLsbD (7 - i))) = b)
  ∧ ∀ (s : State) (p : Port) (r : Recovery), s.portState p = .recovering → (s.engine p).recovery = some r →
    (r.step = .pulse → s.signal p = bit true) ∧ (r.step = .stop → s.signal p = stop)
    ∧ s.clockRate p = some .khz100

/-- BUS_CONDITION_FORMED on a BUSY port: a START leads to the address byte, a poll's START to the poll's byte (that polls and
segments turn to their byte only once their START is formed is log entry 17); the STOP of a read or a one-piece write ends the
transaction with DONE, that of a segment starts the cycle limit, that of a failed attempt starts the retry gap, through which
the bytes counted stay (log entry 20), while the attempts are at most the retries and else ends with the NAK's result, and
after STRETCH_TIMEOUT the lines decide between IDLE and RECOVERING (that nothing bounds that STOP is the model's choice, log
entry 43). No stretch is under way after it (log entry 9). After an abort request the START leads to a STOP and the STOP to
ABORTED (in the STOP of a failed attempt this is the model's choice, log entry 16). A WATCH whose block leaves the 8192 bytes
is a fault (log entry 26). -/
def Obligations.ConditionFormed : Prop :=
  ∀ (s : State) (p : Port) (lines : Lines) (t : Transaction), s.quiet = true →
    s.portState p = .busy → (s.engine p).transaction = some t →
    let e := s.engine p
    let turned := fun (e : Engine) (a : Activity) => { e with activity := a, waitTimer := none, stretchTimer := none }
    let orAbort := fun (a : Activity) => if e.abortRequested then .formStop .aborted else a
    let leaves := (∃ mode hold, t.transfer.op = .watch mode hold) ∧ 8192 < t.transfer.position + 3 * t.transfer.length
    (e.activity = .formStart → exec (.busConditionFormed p lines) s = .next (s.setEngine p
      (turned e (orAbort (.address (decide (t.transfer.op ≠ .write ∧ t.defn.offsetWidth = 0)) false)))))
    ∧ (e.activity = .beforeSegment → exec (.busConditionFormed p lines) s = .next (s.setEngine p
      (turned e (orAbort (.address false false)))))
    ∧ (e.activity = .formRestart → exec (.busConditionFormed p lines) s = .next (s.setEngine p
      (turned e (orAbort (.address true true)))))
    ∧ (e.activity = .betweenPolls ∨ e.activity = .pollStart → exec (.busConditionFormed p lines) s =
      .next (s.setEngine p (turned e .poll)))
    ∧ (e.activity = .formStop .final →
      (leaves → exec (.busConditionFormed p lines) s = .fault (.stagingOutOfRange p))
      ∧ (¬leaves → exec (.busConditionFormed p lines) s = .next (s.endTransaction p e t .done .idle false)))
    ∧ (e.activity = .formStop .segment →
      (e.abortRequested = false → exec (.busConditionFormed p lines) s = .next (s.setEngine p
        (turned { e with cycleTimer := some (t.defn.cycleLimit + 1), cycleExpired := false } .betweenPolls)))
      ∧ (e.abortRequested = true → exec (.busConditionFormed p lines) s =
        .next (s.endTransaction p e t .aborted .idle false)))
    ∧ (∀ r, e.activity = .formStop (.nak r) →
      (e.abortRequested = false → e.attempts ≤ t.defn.retries → exec (.busConditionFormed p lines) s =
        .next (s.setEngine p { e with activity := .retryGap, waitTimer := some 2, stretchTimer := none }))
      ∧ (e.abortRequested = false → t.defn.retries < e.attempts → exec (.busConditionFormed p lines) s =
        .next (s.endTransaction p e t r .idle false))
      ∧ (e.abortRequested = true → exec (.busConditionFormed p lines) s =
        .next (s.endTransaction p e t .aborted .idle false)))
    ∧ (e.activity = .formStop .aborted → exec (.busConditionFormed p lines) s =
      .next (s.endTransaction p e t .aborted .idle false))
    ∧ (e.activity = .stretchStop → exec (.busConditionFormed p lines) s =
      .next (s.endTransaction p e t .stretchTimeout (if lines.bothHigh then .idle else .recovering) false))

/-- CYCLE_POLL_ANSWER and CYCLE_LIMIT_EXPIRY. An ACK confirms the segment: the write ends with DONE when none remains, else
the next segment, from the byte after it to the page's or the write's end, begins; a NAK leads to the next poll, or once the
limit has run out to CYCLE_TIMEOUT. The limit running out while no poll has been begun ends the write with CYCLE_TIMEOUT,
before the first poll as well (log entry 18); once a poll has been begun, its START included (log entry 17), that poll is
carried to its end and its answer still counts. An abort request taken during a poll ends it with ABORTED, unless the last
segment is confirmed. No stretch is under way after an answer (log entry 9); an end by the expiry takes the effect of a tick
(log entry 33). -/
def Obligations.PollsSettled : Prop :=
  ∀ (s : State) (p : Port) (t : Transaction), s.portState p = .busy → (s.engine p).transaction = some t →
    let e := s.engine p
    let turned := fun (e : Engine) (a : Activity) => { e with activity := a, waitTimer := none, stretchTimer := none }
    (s.quiet = true → e.activity = .poll →
      (∀ sg, e.segment = some sg →
        let confirmed := e.confirmed + sg.length
        let sure := { e with confirmed := confirmed, cycleTimer := none, cycleExpired := false }
        let at_ := t.transfer.offset + confirmed
        (t.transfer.length ≤ confirmed → exec (.cyclePollAnswer p true) s =
          .next (s.endTransaction p sure t .done .idle false))
        ∧ (confirmed < t.transfer.length → e.abortRequested = true → exec (.cyclePollAnswer p true) s =
          .next (s.endTransaction p sure t .aborted .idle false))
        ∧ (confirmed < t.transfer.length → e.abortRequested = false → exec (.cyclePollAnswer p true) s =
          .next (s.setEngine p (turned
            { sure with
              segment := some
                { first := at_
                  length := min (t.transfer.length - confirmed) (t.defn.pageSize - at_ % t.defn.pageSize)
                  place := sg.place + 1 } } .beforeSegment))))
      ∧ (e.abortRequested = true → exec (.cyclePollAnswer p false) s =
        .next (s.endTransaction p e t .aborted .idle false))
      ∧ (e.abortRequested = false → e.cycleExpired = true → exec (.cyclePollAnswer p false) s =
        .next (s.endTransaction p e t .cycleTimeout .idle false))
      ∧ (e.abortRequested = false → e.cycleExpired = false → exec (.cyclePollAnswer p false) s =
        .next (s.setEngine p (turned e .betweenPolls))))
    ∧ (s.operating = true → e.cycleTimer = some 0 → ∀ begun : Bool,
      (e.activity = .betweenPolls → begun = false → exec (.cycleLimitExpiry p begun) s =
        .next (s.endTransaction p e t .cycleTimeout .idle true))
      ∧ (e.activity = .betweenPolls → begun = true → exec (.cycleLimitExpiry p begun) s =
        .next (s.setEngine p { e with activity := .pollStart, cycleTimer := none, cycleExpired := true }))
      ∧ (e.activity = .pollStart ∨ e.activity = .poll → exec (.cycleLimitExpiry p begun) s =
        .next (s.setEngine p { e with cycleTimer := none, cycleExpired := true })))

/-- BUS_CONFLICT in a byte sent that has a 1 bit or in a condition formed ends the transaction with BUS_CONFLICT and the port
goes to RECOVERING; a byte 0x00 can meet none (log entry 37). A stretch that ends cancels its limit; one whose limit has run
out puts the engine to waiting for the clock line, for 1 ms; with that run out the transaction ends with STRETCH_TIMEOUT and
the port goes to RECOVERING; with the clock line high before, the engine forms its STOP, in which no interval runs (the
model's choice, log entry 43). At the end of a retry gap the next attempt begins, its count of bytes from 0 (log entry 20).
How a stretch is timed is log entry 9; the wait that begins and the end of the transaction at an expiry take the effect of a
tick (log entry 33). -/
def Obligations.LinesAndGaps : Prop :=
  (∀ a : Activity, a.clocks = true ↔ a ∉ [Activity.none, .retryGap, .stretchClockWait, .stretchStop])
  ∧ ∀ (s : State) (p : Port) (t : Transaction), s.portState p = .busy → (s.engine p).transaction = some t →
    let e := s.engine p
    (s.quiet = true →
      (e.activity = .formStart ∨ e.activity = .beforeSegment ∨ e.activity = .formRestart
          ∨ ((∃ r a, e.activity = .address r a) ∧ s.byteSent p ≠ some 0)
          ∨ ((∃ k, e.activity = .offset k) ∧ s.byteSent p ≠ some 0)
          ∨ ((∃ k, e.activity = .dataOut k) ∧ s.byteSent p ≠ some 0)
          ∨ (∃ c, e.activity = .formStop c) ∨ e.activity = .betweenPolls ∨ e.activity = .pollStart
          ∨ e.activity = .poll →
        exec (.busConflict p) s = .next (s.endTransaction p e t .busConflict .recovering false))
      ∧ ((∃ r a, e.activity = .address r a) ∨ (∃ k, e.activity = .offset k) ∨ (∃ k, e.activity = .dataOut k) →
        s.byteSent p = some 0 →
        exec (.busConflict p) s = .next s)
      ∧ (e.activity.clocks = true → exec (.stretchEnd p) s = .next (s.setEngine p { e with stretchTimer := none }))
      ∧ (e.activity = .stretchClockWait → ∀ dataHigh, exec (.clockWaitEnd p dataHigh) s =
        .next (s.setEngine p { e with activity := .stretchStop, waitTimer := none, stretchTimer := none })))
    ∧ (s.operating = true →
      (e.activity.clocks = true → e.stretchTimer = some 0 → exec (.stretchTimeout p) s =
        .next (s.setEngine p { e with
          activity := .stretchClockWait, waitTimer := some 1, stretchTimer := none, cycleTimer := none
          cycleExpired := false }))
      ∧ (e.activity = .stretchClockWait → e.waitTimer = some 0 → exec (.stopClockWaitExpiry p) s =
        .next (s.endTransaction p e t .stretchTimeout .recovering true))
      ∧ (e.activity = .retryGap → e.waitTimer = some 0 → exec (.retryGapEnd p) s =
        .next (s.setEngine p { e with
          attempts := e.attempts + 1, moved := 0, activity := .formStart, waitTimer := none, stretchTimer := none })))

/-- ABORT_REQUEST takes the oldest request sent to the engine. One that names another owner than the transaction's, or that
finds no transaction or abort requested set, has no further effect. Otherwise abort requested is set; in a retry gap, and
before a segment or a poll whose START is not begun, the transaction ends at once with ABORTED, with the bytes counted before
a retry gap (log entry 20); where that START is being formed it is formed (log entry 17), and elsewhere on the bus the
procedure goes on; a pending transaction waits for its recovery. -/
def Obligations.AbortRequestTaken : Prop :=
  ∀ (s u : State) (p : Port) (owner : Owner) (rest : List Owner) (begun : Bool), s.quiet = true →
    (s.engine p).abortRequests = owner :: rest →
    u = s.setEngine p { s.engine p with abortRequests := rest } →
    let a := (s.engine p).activity
    ((s.engine p).transaction = none ∨ (∃ t, (s.engine p).transaction = some t ∧ t.owner ≠ owner)
        ∨ (s.engine p).abortRequested = true → exec (.abortRequest p begun) s = .next u)
    ∧ ∀ t, (s.engine p).transaction = some t → t.owner = owner → (s.engine p).abortRequested = false →
      (s.portState p = .busy →
        (a = .retryGap ∨ ((a = .beforeSegment ∨ a = .betweenPolls) ∧ begun = false) →
          exec (.abortRequest p begun) s =
            .next (u.endTransaction p { u.engine p with abortRequested := true } t .aborted .idle false))
        ∧ (a = .beforeSegment → begun = true → exec (.abortRequest p begun) s =
          .next (u.setEngine p { u.engine p with activity := .formStart, abortRequested := true }))
        ∧ (a = .betweenPolls → begun = true → exec (.abortRequest p begun) s =
          .next (u.setEngine p { u.engine p with activity := .pollStart, abortRequested := true }))
        ∧ (a ≠ .retryGap → a ≠ .beforeSegment → a ≠ .betweenPolls → exec (.abortRequest p begun) s =
          .next (u.setEngine p { u.engine p with abortRequested := true })))
      ∧ (s.portState p = .recovering → exec (.abortRequest p begun) s =
        .next (u.setEngine p { u.engine p with abortRequested := true }))

/-! ### The end of a transaction (R94 to R98) and the WATCH comparison (R115 to R118) -/

/-- A transaction ends. Of a channel or ticket: its record, with result, bytes moved and attempts, is handed on by way of the
Target Table; its busy range is released, which gives every IDLE port a grant occasion. Of the Start-up Replay Unit: the
record goes to the Replay Unit, no slot takes part, and no busy range is released. In both cases the port's counters count it;
the current grant is empty; the engine holds nothing of it; the port takes its next state, RECOVERING instead of IDLE while
PT_RESET requested is set, and announces it if it is another. A WATCH with DONE stores its reading as the last-read part and
claims WATCH_HIT on a hit; no other end touches staging memory or the sending side. A recovery that begins here is in its
first attempt with no pulse given, waiting for the clock line for 1 ms, one tick fewer when it begins while taking the effect
of a tick (log entry 33); no other interval of the engine runs. A port that takes the state it has changes nothing; one that
takes another announces it, and an IDLE one has a grant occasion. -/
def Obligations.TransactionEnds : Prop :=
  (∀ (s : State) (p : Port) (st : PortState),
    (s.portState p = st → s.enterPortState p st = s)
    ∧ (s.portState p ≠ st → s.enterPortState p st =
      { s with
        engines := s.engines.set p { s.engine p with portState := st }
        portNews := s.portNews.set p (s.portNews.get p ++ [st])
        arbiters := if st = .idle then s.arbiters.set p { s.arbiter p with occasion := true } else s.arbiters }))
  ∧ (∀ (t : Transaction) (mode : WatchMode) (reading : List Byte),
    (∀ c, t.owner = .channel c → watchHitNotice t mode reading = .watchHit false c.val t.index mode reading)
    ∧ ∀ n, t.owner = .ticket n → watchHitNotice t mode reading = .watchHit true n t.index mode reading)
  ∧ ∀ (s u : State) (p : Port) (e : Engine) (t : Transaction) (r : Result) (course : Course) (inTick : Bool),
    u = s.endTransaction p e t r course inTick →
    let made : Record :=
      { result := r, attempts := e.attempts
        moved := if t.transfer.op = .read then e.moved
          else if t.transfer.op = .write then (if t.defn.kind = .memory then e.confirmed else e.moved)
          else if r = .done then t.transfer.length else 0 }
    (t.owner ≠ .replay →
      (∃ outcome, (u.engine p).record =
          some { record := made, owner := t.owner, slot := t.transfer.slot, outcome := outcome }
        ∧ ((t.transfer.op = .read ∨ t.transfer.op = .write ∨ r ≠ .done) → outcome = none)
        ∧ ∀ mode hold, t.transfer.op = .watch mode hold → r = .done →
          outcome = some (if comparisonHits s.staging t.transfer mode (e.scratch.take t.transfer.length) then .hit
            else .noHit))
      ∧ u.busy = s.busy.set p none ∧ u.replay = s.replay
      ∧ (∀ q, q ≠ p → (s.portState q = .idle → (u.arbiter q).occasion = true)
        ∧ (s.portState q ≠ .idle → (u.arbiter q).occasion = (s.arbiter q).occasion)))
    ∧ (t.owner = .replay →
      u.replay = { s.replay with record := some made } ∧ (u.engine p).record = e.record ∧ u.busy = s.busy
      ∧ (∀ q, q ≠ p → (u.arbiter q).occasion = (s.arbiter q).occasion))
    ∧ ((t.transfer.op = .read ∨ t.transfer.op = .write ∨ r ≠ .done) → u.staging = s.staging ∧ u.out = s.out)
    ∧ (∀ mode hold, t.transfer.op = .watch mode hold → r = .done →
      let reading := e.scratch.take t.transfer.length
      u.staging = s.staging.writeBytes (t.transfer.position + 2 * t.transfer.length) reading
      ∧ u.out = if comparisonHits s.staging t.transfer mode reading then s.out.claim (watchHitNotice t mode reading)
        else s.out)
    ∧ u.portState p = (match course with
        | .idle => if e.ptResetRequested then .recovering else .idle
        | .recovering => .recovering
        | .failed => .failed)
    ∧ (u.engine p).phase = .none ∧ (u.portState p = .recovering → (u.engine p).recoveryAttempt = 1)
    ∧ u.engine p =
      { e with
        portState := u.portState p, activity := .none, transaction := none, segment := none, abortRequested := false
        record := (u.engine p).record
        transactions := min (e.transactions + 1) 65535
        failures := if r = .done then e.failures else min (e.failures + 1) 65535
        recovery :=
          if u.portState p = .recovering then some { attempt := 1, pulses := 0, step := .clockWait } else e.recovery
        waitTimer := if u.portState p = .recovering then some (if inTick then 1 else 2) else none
        stretchTimer := none, cycleTimer := none, cycleExpired := false }
    ∧ u.portNews =
      (if u.portState p = e.portState then s.portNews else s.portNews.set p (s.portNews.get p ++ [u.portState p]))
    ∧ (u.portState p = .idle → t.owner ≠ .replay ∨ e.portState ≠ .idle → (u.arbiter p).occasion = true)
    ∧ (u.arbiter p).grant = none
    ∧ (∀ q, q ≠ p → u.engine q = s.engine q ∧ (u.arbiter q).grant = (s.arbiter q).grant)
    ∧ u = { s with staging := u.staging, out := u.out, busy := u.busy, arbiters := u.arbiters, engines := u.engines
                   portNews := u.portNews, replay := u.replay }

/-- The comparison of a WATCH, masked byte by byte: ON_CHANGE hits when some masked byte of the reading differs from that of
the last-read part, ON_MATCH when every one equals that of the reference part, ON_DIFFER when some one differs from it. -/
def Obligations.WatchCompares : Prop :=
  ∀ (m : Memory) (t : Transfer) (reading : List Byte), reading.length = t.length →
    let mask := fun i => m.read (t.position + t.length + i)
    let read := fun i => reading.getD i 0 &&& mask i
    let reference := fun i => m.read (t.position + i) &&& mask i
    let last := fun i => m.read (t.position + 2 * t.length + i) &&& mask i
    (comparisonHits m t .onChange reading = true ↔ ∃ i, i < t.length ∧ read i ≠ last i)
    ∧ (comparisonHits m t .onMatch reading = true ↔ ∀ i, i < t.length → read i = reference i)
    ∧ (comparisonHits m t .onDiffer reading = true ↔ ∃ i, i < t.length ∧ read i ≠ reference i)

/-! ### Recovery (R102 to R105) -/

/-- The steps of a recovery: the clock line reading high leads to the STOP when the data line is high or nine pulses have been
given, else to a pulse, after which the clock wait runs again; a clock wait that runs out and a STOP that leaves a line low
fail the attempt, which waits 10 ms before the next of at most three. A success raises PORT_RECOVERED with the attempts used,
a third failure PORT_FAILED; both count the recovery and clear it and PT_RESET requested. Then the pending transaction begins
its first attempt, with the first segment of a memory write, on a BUSY port, or ends with ABORTED or PORT_FAILED; without one
the port is IDLE or FAILED. The record of the transaction that the recovery followed goes to its owner before any of these
(that the step of the recovery does it, if TARGET_ACCOUNTING has not, is log entry 12). A wait or gap begun while taking the
effect of a tick counts one tick fewer (log entry 33), and the state entered is what the port announces (log entry 13). -/
def Obligations.RecoveryRuns : Prop :=
  (∀ (s : State) (p : Port) (r : Recovery), s.portState p = .recovering → (s.engine p).recovery = some r →
    (s.engine p).record = none →
    let e := s.engine p
    let with_ := fun (r : Recovery) (timer : Option Nat) => s.setEngine p { e with recovery := some r, waitTimer := timer }
    let closed := { e with
      recoveries := min (e.recoveries + 1) 65535, recovery := none, ptResetRequested := false, waitTimer := none }
    let won := ({ s with out := s.out.claim (.portRecovered p r.attempt) } : State).setEngine p closed
    let lost := ({ s with out := s.out.claim (.portFailed p) } : State).setEngine p closed
    let failedTo := fun (inTick : Bool) (u : State) =>
      (r.attempt < 3 → u = with_ { r with step := .gap } (some (if inTick then 10 else 11)))
      ∧ (3 ≤ r.attempt →
        (e.transaction = none → u = lost.enterPortState p .failed)
        ∧ ∀ t, e.transaction = some t → u = lost.endTransaction p closed t .portFailed .failed inTick)
    (s.quiet = true →
      (∀ dataHigh, r.step = .clockWait → exec (.clockWaitEnd p dataHigh) s = .next
        (if dataHigh = true ∨ 9 ≤ r.pulses then with_ { r with step := .stop } (some 2)
        else with_ { r with step := .pulse } none))
      ∧ (∀ dataHigh, r.step = .stop → exec (.clockWaitEnd p dataHigh) s = .next (with_ r none))
      ∧ (r.step = .pulse → exec (.recoveryPulse p) s =
        .next (with_ { r with pulses := r.pulses + 1, step := .clockWait } (some 2)))
      ∧ (∀ lines, r.step = .stop → lines.bothHigh = false →
        ∃ u, exec (.recoveryAttemptEnd p lines) s = .next u ∧ failedTo false u)
      ∧ (∀ lines, r.step = .stop → lines.bothHigh = true →
        (e.transaction = none → exec (.recoveryAttemptEnd p lines) s = .next (won.enterPortState p .idle))
        ∧ (∀ t, e.transaction = some t → e.abortRequested = true → exec (.recoveryAttemptEnd p lines) s =
          .next (won.endTransaction p closed t .aborted .idle false))
        ∧ (∀ t, e.transaction = some t → e.abortRequested = false → exec (.recoveryAttemptEnd p lines) s =
          .next { s with
            out := s.out.claim (.portRecovered p r.attempt)
            portNews := s.portNews.set p (s.portNews.get p ++ [PortState.busy])
            engines := s.engines.set p
              { closed with
                portState := .busy, activity := .formStart, attempts := e.attempts + 1, moved := 0, stretchTimer := none
                segment :=
                  if t.defn.kind = .memory ∧ t.transfer.op = .write then
                    some { first := t.transfer.offset, place := 1
                           length := min t.transfer.length
                             (t.defn.pageSize - t.transfer.offset % t.defn.pageSize) }
                  else none } })))
    ∧ (s.operating = true → e.waitTimer = some 0 →
      (r.step = .gap → exec (.recoveryGapEnd p) s =
        .next (with_ { attempt := r.attempt + 1, pulses := 0, step := .clockWait } (some 1)))
      ∧ (r.step = .clockWait ∨ r.step = .stop →
        ∃ u, exec (.recoveryClockWaitExpiry p) s = .next u ∧ failedTo true u)))
  ∧ ∀ (s : State) (p : Port) (r : Recovery), s.portState p = .recovering → (s.engine p).recovery = some r →
    let passed := s.onTargetAccounting p
    (passed.engine p).record = none
    ∧ (s.quiet = true → exec (.targetAccounting p) s = .next passed
      ∧ (∀ dataHigh, r.step = .clockWait ∨ r.step = .stop →
        exec (.clockWaitEnd p dataHigh) s = exec (.clockWaitEnd p dataHigh) passed)
      ∧ (r.step = .pulse → exec (.recoveryPulse p) s = exec (.recoveryPulse p) passed)
      ∧ (∀ lines, r.step = .stop → exec (.recoveryAttemptEnd p lines) s = exec (.recoveryAttemptEnd p lines) passed))
    ∧ (s.operating = true → (s.engine p).waitTimer = some 0 →
      (r.step = .gap → exec (.recoveryGapEnd p) s = exec (.recoveryGapEnd p) passed)
      ∧ (r.step = .clockWait ∨ r.step = .stop →
        exec (.recoveryClockWaitExpiry p) s = exec (.recoveryClockWaitExpiry p) passed))

/-! ### Invariants -/

/-- What every step keeps holds right after reset. -/
def Obligations.OkAtReset : Prop := Ok State.reset

/-- Every step keeps the tables: the pool's 128 entries are the free ones and those of the rings, with at most 32 in a ring;
at most 4 tickets, all with different numbers; every slot's count agrees with its state and definition, and no two slots share
a port and bus address; a pacer's period is 1 to 65535, and its time remaining 1 to 65536 while it is RUNNING and 0 while it
is STOPPED. -/
def Obligations.TablesKept : Prop :=
  ∀ s t : State, step s = .next t →
    (PoolOk s → PoolOk t) ∧ (TicketsOk s → TicketsOk t) ∧ (TargetsOk s → TargetsOk t)
    ∧ ((∀ n, PacerOk (s.pacer n)) → ∀ n, PacerOk (t.pacer n))

/-- Every step keeps the notices: at most 24 held and 4 in the window, all with different numbers, ATTN_N low exactly while an
ALARM is held, and created = acknowledged + held + discarded + merged modulo 2 to the 32. -/
def Obligations.NoticesKept : Prop :=
  ∀ s t : State, step s = .next t → NoticesOk s.out.notices → NoticesOk t.out.notices

/-- Every step keeps the channels and the start-up: a channel that is OFF, PACED or HALTED has no head in service, a STOPPING
one its head on a port, a halt reason exactly while it is HALTED, held pass end only with a watch hold; a READY system has no
replay phase and no abort of the start-up. -/
def Obligations.ChannelsKept : Prop :=
  ∀ s t : State, step s = .next t →
    ((∀ c, ChannelOk (s.channel c)) → ∀ c, ChannelOk (t.channel c)) ∧ (ReplayOk s.replay → ReplayOk t.replay)

/-- Every step keeps the ports: a BUSY engine has a transaction and an activity, an IDLE, FAILED or DISABLED one no
transaction, RECOVERING is exactly while a recovery is under way; and no two busy ranges of different ports conflict. -/
def Obligations.PortsKept : Prop :=
  ∀ s t : State, step s = .next t →
    ((∀ p, EngineOk (s.engine p)) → ∀ p, EngineOk (t.engine p)) ∧ (BusyOk s → BusyOk t)

/-- Every step of a state that is Ok answers a next state, no fault, and that state is Ok; so the part completes every finite
sequence of commands from reset. -/
def Obligations.EveryRunCompletes : Prop :=
  (∀ s : State, Ok s → ∃ t, step s = .next t ∧ Ok t)
  ∧ ∀ (commands : List Instr) (k : Nat), ∃ t,
    Sys2Proof.core.run k ({ State.reset with pending := commands } : State) = .next t ∧ Ok t

end Statements
end

