-- ==== Sys2Proof/Laws/State.lean ====
section
/-! SUPPORT. What each update of the state leaves and what each reader then reads: one lemma per field per update, so that no
later proof unfolds a record update. -/

namespace Sys2Proof.Machine

/-! ### One value for each port -/

@[simp] theorem PerPort.get_set_same {α : Type} (v : PerPort α) (p : Port) (x : α) : (v.set p x).get p = x := by
  cases p <;> rfl

theorem PerPort.get_set {α : Type} (v : PerPort α) (p q : Port) (x : α) :
    (v.set p x).get q = if q = p then x else v.get q := by
  cases p <;> cases q <;> rfl

@[simp] theorem PerPort.get_map {α β : Type} (f : α → β) (v : PerPort α) (p : Port) : (v.map f).get p = f (v.get p) := by
  cases p <;> rfl

@[simp] theorem PerPort.get_zipWith {α β γ : Type} (f : α → β → γ) (v : PerPort α) (w : PerPort β) (p : Port) :
    (PerPort.zipWith f v w).get p = f (v.get p) (w.get p) := by
  cases p <;> rfl

/-! ### setChannel -/

section setChannel
variable (s : State) (c : ChannelIx) (ch : Channel)

@[simp] theorem setChannel_pending : (s.setChannel c ch).pending = s.pending := rfl
@[simp] theorem setChannel_powerOnHold : (s.setChannel c ch).powerOnHold = s.powerOnHold := rfl
@[simp] theorem setChannel_resetNLow : (s.setChannel c ch).resetNLow = s.resetNLow := rfl
@[simp] theorem setChannel_straps : (s.setChannel c ch).straps = s.straps := rfl
@[simp] theorem setChannel_link : (s.setChannel c ch).link = s.link := rfl
@[simp] theorem setChannel_interp : (s.setChannel c ch).interp = s.interp := rfl
@[simp] theorem setChannel_out : (s.setChannel c ch).out = s.out := rfl
@[simp] theorem setChannel_slots : (s.setChannel c ch).slots = s.slots := rfl
@[simp] theorem setChannel_slotNews : (s.setChannel c ch).slotNews = s.slotNews := rfl
@[simp] theorem setChannel_staging : (s.setChannel c ch).staging = s.staging := rfl
@[simp] theorem setChannel_busy : (s.setChannel c ch).busy = s.busy := rfl
@[simp] theorem setChannel_poolFree : (s.setChannel c ch).poolFree = s.poolFree := rfl
@[simp] theorem setChannel_tickets : (s.setChannel c ch).tickets = s.tickets := rfl
@[simp] theorem setChannel_nextTicket : (s.setChannel c ch).nextTicket = s.nextTicket := rfl
@[simp] theorem setChannel_arbiters : (s.setChannel c ch).arbiters = s.arbiters := rfl
@[simp] theorem setChannel_engines : (s.setChannel c ch).engines = s.engines := rfl
@[simp] theorem setChannel_portNews : (s.setChannel c ch).portNews = s.portNews := rfl
@[simp] theorem setChannel_pacers : (s.setChannel c ch).pacers = s.pacers := rfl
@[simp] theorem setChannel_replay : (s.setChannel c ch).replay = s.replay := rfl
@[simp] theorem setChannel_slot (k : SlotIx) : (s.setChannel c ch).slot k = s.slot k := rfl
@[simp] theorem setChannel_pacer (k : PacerIx) : (s.setChannel c ch).pacer k = s.pacer k := rfl
@[simp] theorem setChannel_engine (k : Port) : (s.setChannel c ch).engine k = s.engine k := rfl
@[simp] theorem setChannel_arbiter (k : Port) : (s.setChannel c ch).arbiter k = s.arbiter k := rfl
@[simp] theorem setChannel_portState (k : Port) : (s.setChannel c ch).portState k = s.portState k := rfl
@[simp] theorem setChannel_operating : (s.setChannel c ch).operating = s.operating := rfl

@[simp] theorem setChannel_channel_same : (s.setChannel c ch).channel c = ch := by simp [State.setChannel, State.channel]
theorem setChannel_channel (m : ChannelIx) : (s.setChannel c ch).channel m = if m = c then ch else s.channel m := by
  simp only [State.setChannel, State.channel, Fin.getElem_fin, Vector.getElem_set, Fin.val_inj, eq_comm]

end setChannel

/-! ### setSlot -/

section setSlot
variable (s : State) (n : SlotIx) (sl : Slot)

@[simp] theorem setSlot_pending : (s.setSlot n sl).pending = s.pending := rfl
@[simp] theorem setSlot_powerOnHold : (s.setSlot n sl).powerOnHold = s.powerOnHold := rfl
@[simp] theorem setSlot_resetNLow : (s.setSlot n sl).resetNLow = s.resetNLow := rfl
@[simp] theorem setSlot_straps : (s.setSlot n sl).straps = s.straps := rfl
@[simp] theorem setSlot_link : (s.setSlot n sl).link = s.link := rfl
@[simp] theorem setSlot_interp : (s.setSlot n sl).interp = s.interp := rfl
@[simp] theorem setSlot_out : (s.setSlot n sl).out = s.out := rfl
@[simp] theorem setSlot_slotNews : (s.setSlot n sl).slotNews = s.slotNews := rfl
@[simp] theorem setSlot_staging : (s.setSlot n sl).staging = s.staging := rfl
@[simp] theorem setSlot_busy : (s.setSlot n sl).busy = s.busy := rfl
@[simp] theorem setSlot_channels : (s.setSlot n sl).channels = s.channels := rfl
@[simp] theorem setSlot_poolFree : (s.setSlot n sl).poolFree = s.poolFree := rfl
@[simp] theorem setSlot_tickets : (s.setSlot n sl).tickets = s.tickets := rfl
@[simp] theorem setSlot_nextTicket : (s.setSlot n sl).nextTicket = s.nextTicket := rfl
@[simp] theorem setSlot_arbiters : (s.setSlot n sl).arbiters = s.arbiters := rfl
@[simp] theorem setSlot_engines : (s.setSlot n sl).engines = s.engines := rfl
@[simp] theorem setSlot_portNews : (s.setSlot n sl).portNews = s.portNews := rfl
@[simp] theorem setSlot_pacers : (s.setSlot n sl).pacers = s.pacers := rfl
@[simp] theorem setSlot_replay : (s.setSlot n sl).replay = s.replay := rfl
@[simp] theorem setSlot_channel (k : ChannelIx) : (s.setSlot n sl).channel k = s.channel k := rfl
@[simp] theorem setSlot_pacer (k : PacerIx) : (s.setSlot n sl).pacer k = s.pacer k := rfl
@[simp] theorem setSlot_engine (k : Port) : (s.setSlot n sl).engine k = s.engine k := rfl
@[simp] theorem setSlot_arbiter (k : Port) : (s.setSlot n sl).arbiter k = s.arbiter k := rfl
@[simp] theorem setSlot_portState (k : Port) : (s.setSlot n sl).portState k = s.portState k := rfl
@[simp] theorem setSlot_operating : (s.setSlot n sl).operating = s.operating := rfl

@[simp] theorem setSlot_slot_same : (s.setSlot n sl).slot n = sl := by simp [State.setSlot, State.slot]
theorem setSlot_slot (m : SlotIx) : (s.setSlot n sl).slot m = if m = n then sl else s.slot m := by
  simp only [State.setSlot, State.slot, Fin.getElem_fin, Vector.getElem_set, Fin.val_inj, eq_comm]

end setSlot

/-! ### setPacer -/

section setPacer
variable (s : State) (n : PacerIx) (pc : Pacer)

@[simp] theorem setPacer_pending : (s.setPacer n pc).pending = s.pending := rfl
@[simp] theorem setPacer_powerOnHold : (s.setPacer n pc).powerOnHold = s.powerOnHold := rfl
@[simp] theorem setPacer_resetNLow : (s.setPacer n pc).resetNLow = s.resetNLow := rfl
@[simp] theorem setPacer_straps : (s.setPacer n pc).straps = s.straps := rfl
@[simp] theorem setPacer_link : (s.setPacer n pc).link = s.link := rfl
@[simp] theorem setPacer_interp : (s.setPacer n pc).interp = s.interp := rfl
@[simp] theorem setPacer_out : (s.setPacer n pc).out = s.out := rfl
@[simp] theorem setPacer_slots : (s.setPacer n pc).slots = s.slots := rfl
@[simp] theorem setPacer_slotNews : (s.setPacer n pc).slotNews = s.slotNews := rfl
@[simp] theorem setPacer_staging : (s.setPacer n pc).staging = s.staging := rfl
@[simp] theorem setPacer_busy : (s.setPacer n pc).busy = s.busy := rfl
@[simp] theorem setPacer_channels : (s.setPacer n pc).channels = s.channels := rfl
@[simp] theorem setPacer_poolFree : (s.setPacer n pc).poolFree = s.poolFree := rfl
@[simp] theorem setPacer_tickets : (s.setPacer n pc).tickets = s.tickets := rfl
@[simp] theorem setPacer_nextTicket : (s.setPacer n pc).nextTicket = s.nextTicket := rfl
@[simp] theorem setPacer_arbiters : (s.setPacer n pc).arbiters = s.arbiters := rfl
@[simp] theorem setPacer_engines : (s.setPacer n pc).engines = s.engines := rfl
@[simp] theorem setPacer_portNews : (s.setPacer n pc).portNews = s.portNews := rfl
@[simp] theorem setPacer_replay : (s.setPacer n pc).replay = s.replay := rfl
@[simp] theorem setPacer_channel (k : ChannelIx) : (s.setPacer n pc).channel k = s.channel k := rfl
@[simp] theorem setPacer_slot (k : SlotIx) : (s.setPacer n pc).slot k = s.slot k := rfl
@[simp] theorem setPacer_engine (k : Port) : (s.setPacer n pc).engine k = s.engine k := rfl
@[simp] theorem setPacer_arbiter (k : Port) : (s.setPacer n pc).arbiter k = s.arbiter k := rfl
@[simp] theorem setPacer_portState (k : Port) : (s.setPacer n pc).portState k = s.portState k := rfl
@[simp] theorem setPacer_operating : (s.setPacer n pc).operating = s.operating := rfl

@[simp] theorem setPacer_pacer_same : (s.setPacer n pc).pacer n = pc := by simp [State.setPacer, State.pacer]
theorem setPacer_pacer (m : PacerIx) : (s.setPacer n pc).pacer m = if m = n then pc else s.pacer m := by
  simp only [State.setPacer, State.pacer, Fin.getElem_fin, Vector.getElem_set, Fin.val_inj, eq_comm]

end setPacer

/-! ### setEngine -/

section setEngine
variable (s : State) (p : Port) (e : Engine)

@[simp] theorem setEngine_pending : (s.setEngine p e).pending = s.pending := rfl
@[simp] theorem setEngine_powerOnHold : (s.setEngine p e).powerOnHold = s.powerOnHold := rfl
@[simp] theorem setEngine_resetNLow : (s.setEngine p e).resetNLow = s.resetNLow := rfl
@[simp] theorem setEngine_straps : (s.setEngine p e).straps = s.straps := rfl
@[simp] theorem setEngine_link : (s.setEngine p e).link = s.link := rfl
@[simp] theorem setEngine_interp : (s.setEngine p e).interp = s.interp := rfl
@[simp] theorem setEngine_out : (s.setEngine p e).out = s.out := rfl
@[simp] theorem setEngine_slots : (s.setEngine p e).slots = s.slots := rfl
@[simp] theorem setEngine_slotNews : (s.setEngine p e).slotNews = s.slotNews := rfl
@[simp] theorem setEngine_staging : (s.setEngine p e).staging = s.staging := rfl
@[simp] theorem setEngine_busy : (s.setEngine p e).busy = s.busy := rfl
@[simp] theorem setEngine_channels : (s.setEngine p e).channels = s.channels := rfl
@[simp] theorem setEngine_poolFree : (s.setEngine p e).poolFree = s.poolFree := rfl
@[simp] theorem setEngine_tickets : (s.setEngine p e).tickets = s.tickets := rfl
@[simp] theorem setEngine_nextTicket : (s.setEngine p e).nextTicket = s.nextTicket := rfl
@[simp] theorem setEngine_arbiters : (s.setEngine p e).arbiters = s.arbiters := rfl
@[simp] theorem setEngine_portNews : (s.setEngine p e).portNews = s.portNews := rfl
@[simp] theorem setEngine_pacers : (s.setEngine p e).pacers = s.pacers := rfl
@[simp] theorem setEngine_replay : (s.setEngine p e).replay = s.replay := rfl
@[simp] theorem setEngine_channel (k : ChannelIx) : (s.setEngine p e).channel k = s.channel k := rfl
@[simp] theorem setEngine_slot (k : SlotIx) : (s.setEngine p e).slot k = s.slot k := rfl
@[simp] theorem setEngine_pacer (k : PacerIx) : (s.setEngine p e).pacer k = s.pacer k := rfl
@[simp] theorem setEngine_arbiter (k : Port) : (s.setEngine p e).arbiter k = s.arbiter k := rfl
@[simp] theorem setEngine_operating : (s.setEngine p e).operating = s.operating := rfl

@[simp] theorem setEngine_engine_same : (s.setEngine p e).engine p = e := PerPort.get_set_same _ _ _
theorem setEngine_engine (q : Port) : (s.setEngine p e).engine q = if q = p then e else s.engine q := PerPort.get_set _ _ _ _
@[simp] theorem setEngine_portState_same : (s.setEngine p e).portState p = e.portState := by
  simp [State.portState]
theorem setEngine_portState (q : Port) :
    (s.setEngine p e).portState q = if q = p then e.portState else s.portState q := by
  unfold State.portState; rw [setEngine_engine]; split <;> rfl

end setEngine

/-! ### setArbiter -/

section setArbiter
variable (s : State) (p : Port) (x : Arbiter)

@[simp] theorem setArbiter_pending : (s.setArbiter p x).pending = s.pending := rfl
@[simp] theorem setArbiter_powerOnHold : (s.setArbiter p x).powerOnHold = s.powerOnHold := rfl
@[simp] theorem setArbiter_resetNLow : (s.setArbiter p x).resetNLow = s.resetNLow := rfl
@[simp] theorem setArbiter_straps : (s.setArbiter p x).straps = s.straps := rfl
@[simp] theorem setArbiter_link : (s.setArbiter p x).link = s.link := rfl
@[simp] theorem setArbiter_interp : (s.setArbiter p x).interp = s.interp := rfl
@[simp] theorem setArbiter_out : (s.setArbiter p x).out = s.out := rfl
@[simp] theorem setArbiter_slots : (s.setArbiter p x).slots = s.slots := rfl
@[simp] theorem setArbiter_slotNews : (s.setArbiter p x).slotNews = s.slotNews := rfl
@[simp] theorem setArbiter_staging : (s.setArbiter p x).staging = s.staging := rfl
@[simp] theorem setArbiter_busy : (s.setArbiter p x).busy = s.busy := rfl
@[simp] theorem setArbiter_channels : (s.setArbiter p x).channels = s.channels := rfl
@[simp] theorem setArbiter_poolFree : (s.setArbiter p x).poolFree = s.poolFree := rfl
@[simp] theorem setArbiter_tickets : (s.setArbiter p x).tickets = s.tickets := rfl
@[simp] theorem setArbiter_nextTicket : (s.setArbiter p x).nextTicket = s.nextTicket := rfl
@[simp] theorem setArbiter_engines : (s.setArbiter p x).engines = s.engines := rfl
@[simp] theorem setArbiter_portNews : (s.setArbiter p x).portNews = s.portNews := rfl
@[simp] theorem setArbiter_pacers : (s.setArbiter p x).pacers = s.pacers := rfl
@[simp] theorem setArbiter_replay : (s.setArbiter p x).replay = s.replay := rfl
@[simp] theorem setArbiter_channel (k : ChannelIx) : (s.setArbiter p x).channel k = s.channel k := rfl
@[simp] theorem setArbiter_slot (k : SlotIx) : (s.setArbiter p x).slot k = s.slot k := rfl
@[simp] theorem setArbiter_pacer (k : PacerIx) : (s.setArbiter p x).pacer k = s.pacer k := rfl
@[simp] theorem setArbiter_engine (k : Port) : (s.setArbiter p x).engine k = s.engine k := rfl
@[simp] theorem setArbiter_portState (k : Port) : (s.setArbiter p x).portState k = s.portState k := rfl
@[simp] theorem setArbiter_operating : (s.setArbiter p x).operating = s.operating := rfl

@[simp] theorem setArbiter_arbiter_same : (s.setArbiter p x).arbiter p = x := PerPort.get_set_same _ _ _
theorem setArbiter_arbiter (q : Port) : (s.setArbiter p x).arbiter q = if q = p then x else s.arbiter q := PerPort.get_set _ _ _ _

end setArbiter

/-! ### Announcing a slot -/

@[simp] theorem announceSlot_pending (s : State) (n : SlotIx) : (s.announceSlot n).pending = s.pending := rfl
@[simp] theorem announceSlot_powerOnHold (s : State) (n : SlotIx) : (s.announceSlot n).powerOnHold = s.powerOnHold := rfl
@[simp] theorem announceSlot_resetNLow (s : State) (n : SlotIx) : (s.announceSlot n).resetNLow = s.resetNLow := rfl
@[simp] theorem announceSlot_straps (s : State) (n : SlotIx) : (s.announceSlot n).straps = s.straps := rfl
@[simp] theorem announceSlot_link (s : State) (n : SlotIx) : (s.announceSlot n).link = s.link := rfl
@[simp] theorem announceSlot_interp (s : State) (n : SlotIx) : (s.announceSlot n).interp = s.interp := rfl
@[simp] theorem announceSlot_out (s : State) (n : SlotIx) : (s.announceSlot n).out = s.out := rfl
@[simp] theorem announceSlot_slots (s : State) (n : SlotIx) : (s.announceSlot n).slots = s.slots := rfl
@[simp] theorem announceSlot_staging (s : State) (n : SlotIx) : (s.announceSlot n).staging = s.staging := rfl
@[simp] theorem announceSlot_busy (s : State) (n : SlotIx) : (s.announceSlot n).busy = s.busy := rfl
@[simp] theorem announceSlot_channels (s : State) (n : SlotIx) : (s.announceSlot n).channels = s.channels := rfl
@[simp] theorem announceSlot_poolFree (s : State) (n : SlotIx) : (s.announceSlot n).poolFree = s.poolFree := rfl
@[simp] theorem announceSlot_tickets (s : State) (n : SlotIx) : (s.announceSlot n).tickets = s.tickets := rfl
@[simp] theorem announceSlot_nextTicket (s : State) (n : SlotIx) : (s.announceSlot n).nextTicket = s.nextTicket := rfl
@[simp] theorem announceSlot_arbiters (s : State) (n : SlotIx) : (s.announceSlot n).arbiters = s.arbiters := rfl
@[simp] theorem announceSlot_engines (s : State) (n : SlotIx) : (s.announceSlot n).engines = s.engines := rfl
@[simp] theorem announceSlot_portNews (s : State) (n : SlotIx) : (s.announceSlot n).portNews = s.portNews := rfl
@[simp] theorem announceSlot_pacers (s : State) (n : SlotIx) : (s.announceSlot n).pacers = s.pacers := rfl
@[simp] theorem announceSlot_replay (s : State) (n : SlotIx) : (s.announceSlot n).replay = s.replay := rfl
@[simp] theorem announceSlot_channel (s : State) (n : SlotIx) (k : ChannelIx) : (s.announceSlot n).channel k = s.channel k := rfl
@[simp] theorem announceSlot_slot (s : State) (n : SlotIx) (k : SlotIx) : (s.announceSlot n).slot k = s.slot k := rfl
@[simp] theorem announceSlot_pacer (s : State) (n : SlotIx) (k : PacerIx) : (s.announceSlot n).pacer k = s.pacer k := rfl
@[simp] theorem announceSlot_engine (s : State) (n : SlotIx) (k : Port) : (s.announceSlot n).engine k = s.engine k := rfl
@[simp] theorem announceSlot_arbiter (s : State) (n : SlotIx) (k : Port) : (s.announceSlot n).arbiter k = s.arbiter k := rfl
@[simp] theorem announceSlot_portState (s : State) (n : SlotIx) (k : Port) : (s.announceSlot n).portState k = s.portState k := rfl

/-! ### Updates that change nothing -/

@[simp] theorem setChannel_channel_self (s : State) (c : ChannelIx) : s.setChannel c (s.channel c) = s := by
  simp [State.setChannel, State.channel]

@[simp] theorem setSlot_slot_self (s : State) (n : SlotIx) : s.setSlot n (s.slot n) = s := by
  simp [State.setSlot, State.slot]

@[simp] theorem setEngine_engine_self (s : State) (p : Port) : s.setEngine p (s.engine p) = s := by
  cases p <;> rfl

end Sys2Proof.Machine
end

