-- ==== Sys2Proof/Laws/Ops.lean ====
section
/-! SUPPORT. What the shared operations do: claims, grant occasions, port changes, and the taking of a command. -/

namespace Sys2Proof.Machine

/-! ### Held in reset, and expiries due -/

/-- What the part is when nothing stands between it and the next event. -/
theorem quiet_iff {s : State} : s.quiet = true ↔ s.operating = true ∧ s.expiries = [] := by
  simp [State.quiet]

theorem operating_of_quiet {s : State} (h : s.quiet = true) : s.operating = true := (quiet_iff.mp h).1

/-- With no expiry due nothing is taken before the event. -/
theorem takeDue_of_quiet {s : State} (h : s.quiet = true) : s.takeDue = s := by
  simp [State.takeDue, (quiet_iff.mp h).2]

theorem settled_of_quiet {s : State} (h : s.quiet = true) : s.settled = s := by
  simp [State.settled, takeDue_of_quiet h]

theorem whenOperating_of {s : State} (h : s.quiet = true) (f : State → State) : whenOperating s f = .next (f s) := by
  simp [whenOperating, operating_of_quiet h, takeDue_of_quiet h]

theorem whenOperating_held {s : State} (h : s.operating = false) (f : State → State) : whenOperating s f = .next s := by
  simp [whenOperating, h]

/-- A step at a state with expiries due is the step after them (R125). -/
theorem whenOperating_due {s : State} (h : s.operating = true) (hq : s.takeDue.quiet = true) (f : State → State) :
    whenOperating s f = whenOperating s.takeDue f := by
  rw [whenOperating_of hq, whenOperating, if_pos h]

theorem whenDue_of {s : State} (h : s.operating = true) (x : Expiry) : whenDue s x = .next (s.expire x) := by
  simp [whenDue, h]

theorem whenDue_held {s : State} (h : s.operating = false) (x : Expiry) : whenDue s x = .next s := by
  simp [whenDue, h]

/-- What every expiry keeps, the taking of all that are due keeps. -/
theorem takeDue_keeps {P : State → Prop} (hx : ∀ s x, P s → P (State.expire s x)) {s : State} (hs : P s) :
    P s.takeDue := by
  unfold State.takeDue
  generalize s.expiries = xs
  induction xs generalizing s with
  | nil => exact hs
  | cons x rest ih => exact ih (hx s x hs)

/-- If f and every expiry keep a property, the step built on f keeps it. -/
theorem whenOperating_keeps {P : State → Prop} {s t : State} {f : State → State}
    (hx : ∀ s x, P s → P (State.expire s x)) (hf : ∀ s, P s → P (f s)) (hs : P s) (h : whenOperating s f = .next t) :
    P t := by
  simp only [whenOperating, Host.Outcome.next.injEq] at h
  subst h
  split
  · exact hf _ (takeDue_keeps hx hs)
  · exact hs

theorem whenDue_keeps {P : State → Prop} {s t : State} {x : Expiry} (hx : ∀ s x, P s → P (State.expire s x)) (hs : P s)
    (h : whenDue s x = .next t) : P t := by
  simp only [whenDue, Host.Outcome.next.injEq] at h
  subst h
  split
  · exact hx _ _ hs
  · exact hs

/-! ### Claims -/

theorem claim_eq (s : State) (k : NoticeKind) : s.claim k = { s with out := s.out.claim k } := rfl

theorem claimIf_eq (s : State) (b : Bool) (k : NoticeKind) :
    s.claimIf b k = { s with out := if b then s.out.claim k else s.out } := by
  cases b <;> rfl

@[simp] theorem claimIf_false (s : State) (k : NoticeKind) : s.claimIf false k = s := rfl
@[simp] theorem claimIf_true (s : State) (k : NoticeKind) : s.claimIf true k = s.claim k := rfl

@[simp] theorem claim_channel (s : State) (k : NoticeKind) (c : ChannelIx) : (s.claim k).channel c = s.channel c := rfl
@[simp] theorem claim_slot (s : State) (k : NoticeKind) (n : SlotIx) : (s.claim k).slot n = s.slot n := rfl
@[simp] theorem claim_engine (s : State) (k : NoticeKind) (p : Port) : (s.claim k).engine p = s.engine p := rfl
@[simp] theorem claimIf_channel (s : State) (b : Bool) (k : NoticeKind) (c : ChannelIx) :
    (s.claimIf b k).channel c = s.channel c := by cases b <;> rfl
@[simp] theorem claimIf_engine (s : State) (b : Bool) (k : NoticeKind) (p : Port) :
    (s.claimIf b k).engine p = s.engine p := by cases b <;> rfl

/-! ### Grant occasions and port changes -/

/-- A grant occasion touches the arbiters only. -/
theorem raiseOccasion_touches (s : State) (p : Port) : ∃ arb, s.raiseOccasion p = { s with arbiters := arb } :=
  ⟨_, rfl⟩

theorem raiseOccasionIfIdle_touches (s : State) (p : Port) :
    ∃ arb, s.raiseOccasionIfIdle p = { s with arbiters := arb } := by
  unfold State.raiseOccasionIfIdle
  split
  · exact ⟨_, rfl⟩
  · exact ⟨s.arbiters, rfl⟩

theorem raiseOccasions_touch (ps : List Port) (s : State) :
    ∃ arb, ps.foldl State.raiseOccasionIfIdle s = { s with arbiters := arb } := by
  induction ps generalizing s with
  | nil => exact ⟨s.arbiters, rfl⟩
  | cons p rest ih =>
    obtain ⟨arb, h⟩ := raiseOccasionIfIdle_touches s p
    obtain ⟨arb', h'⟩ := ih { s with arbiters := arb }
    exact ⟨arb', by rw [List.foldl_cons, h, h']⟩

/-- The end of a transaction releases the port's range, and touches besides it the arbiters only (R52). -/
theorem releaseRange_touches (s : State) (p : Port) :
    ∃ arb, s.releaseRange p = { s with busy := s.busy.set p none, arbiters := arb } :=
  raiseOccasions_touch allPorts { s with busy := s.busy.set p none }

/-- A change of port state is announced and, into IDLE, gives a grant occasion; nothing else changes (R58, R107). -/
theorem enterPortState_touches (s : State) (p : Port) (st : PortState) :
    ∃ news arb, s.enterPortState p st =
      { s with engines := s.engines.set p { s.engine p with portState := st }, portNews := news, arbiters := arb } := by
  unfold State.enterPortState
  split
  · next h =>
    refine ⟨s.portNews, s.arbiters, ?_⟩
    subst h
    cases p <;> rfl
  · split
    · exact ⟨_, _, rfl⟩
    · exact ⟨_, _, rfl⟩

@[simp] theorem enterPortState_engine_same (s : State) (p : Port) (st : PortState) :
    (s.enterPortState p st).engine p = { s.engine p with portState := st } := by
  obtain ⟨news, arb, h⟩ := enterPortState_touches s p st
  rw [h]; exact PerPort.get_set_same _ _ _

/-- Another port's engine does not see the change. -/
theorem enterPortState_engine_ne (s : State) {p q : Port} (st : PortState) (hq : q ≠ p) :
    (s.enterPortState p st).engine q = s.engine q := by
  obtain ⟨news, arb, h⟩ := enterPortState_touches s p st
  rw [h]; exact (PerPort.get_set _ _ _ _).trans (if_neg hq)

/-- A recovery begins: the port's engine is RECOVERING with attempt 1 and no pulse (R101). -/
theorem enterRecovery_touches (s : State) (p : Port) (inTick : Bool) :
    ∃ news arb, s.enterRecovery p inTick =
      { s with
        engines := s.engines.set p { (s.engine p).beginRecovery inTick with portState := .recovering }
        portNews := news, arbiters := arb } := by
  obtain ⟨news, arb, h⟩ := enterPortState_touches (s.setEngine p ((s.engine p).beginRecovery inTick)) p .recovering
  refine ⟨news, arb, ?_⟩
  unfold State.enterRecovery
  rw [h]
  cases p <;> rfl

/-- The state a port enters is announced when it differs from the one it leaves, and then only (R107). -/
theorem enterPortState_news (s : State) (p : Port) (st : PortState) :
    (s.enterPortState p st).portNews =
      if st = s.portState p then s.portNews else s.portNews.set p (s.portNews.get p ++ [st]) := by
  unfold State.enterPortState
  by_cases h : s.portState p = st
  · rw [if_pos h, if_pos h.symm]
  · rw [if_neg h, if_neg (Ne.symm h)]
    split <;> rfl

theorem enterPortState_portState (s : State) (p : Port) (st : PortState) : (s.enterPortState p st).portState p = st := by
  unfold State.portState
  rw [enterPortState_engine_same]

/-- A recovery is announced unless the port is RECOVERING already. -/
theorem enterRecovery_news (s : State) (p : Port) (inTick : Bool) :
    (s.enterRecovery p inTick).portNews =
      if PortState.recovering = s.portState p then s.portNews
      else s.portNews.set p (s.portNews.get p ++ [.recovering]) := by
  unfold State.enterRecovery
  rw [enterPortState_news]
  have hp : (s.setEngine p ((s.engine p).beginRecovery inTick)).portState p = s.portState p := by
    rw [setEngine_portState_same]; rfl
  rw [hp]
  rfl

/-! ### The taking of a command (R168, R169) -/

/-- Only a submission has an evaluation after its reply (R63). -/
theorem settleKind_evaluate {kind : CommandKind} (h : kind ≠ .xfer) (payload : List Byte) (s : State) :
    (settleKind kind payload s).evaluate = none := by
  cases kind <;> first | exact absurd rfl h | skip
  all_goals
    simp only [settleKind, settlePing, settleIdentify, settleStatus, settleTgtSet, settleTgtGet, settleTgtRemove,
      settleTgtFence, settleTgtUnfence, settleMemWrite, settleMemRead, settleChConfig, settleChLoad, settleChClear,
      settleChStart, settleChStop, settleChAbort, settleChResume, settleChGet, settlePcSet, settlePcStart, settlePcStop,
      settlePcGet, settlePtEnable, settlePtDisable, settlePtReset, settlePtGet, settleXferCancel, withChannel, withSlot,
      withPacer, withPort, takenWithState]
    repeat' split
    all_goals rfl

/-- A frame that reaches its owner is answered with what the owner settles, and nothing else happens. -/
theorem interpretPlain_taken {s : State} {kind : CommandKind} {f : CommandFrame} {rest : List CommandFrame}
    (h : Takes s kind f rest) (settle : List Byte → State → Settled)
    (he : (settle f.payload (s.takeOldest rest)).evaluate = none) :
    whenOperating s (interpretPlain kind settle) =
      .next ((settle f.payload (s.takeOldest rest)).state.answer f (settle f.payload (s.takeOldest rest)).status
        (settle f.payload (s.takeOldest rest)).fields) := by
  obtain ⟨hq, hin, hfree, hkind, hfresh, hadm, hlen⟩ := h
  rw [whenOperating_of hq, interpretPlain, interpret, hin]
  have hadm' : ¬((s.takeOldest rest).replay.system = .starting ∧ kind.admittedAtStart = false) := by
    rintro ⟨hs, hk⟩
    rcases hadm with hr | hk'
    · rw [show (s.takeOldest rest).replay.system = s.replay.system from rfl, hr] at hs; cases hs
    · rw [hk] at hk'; cases hk'
  simp only [hfree, hkind, hfresh, settleFromLink, if_neg hadm', hlen, beq_self_eq_true, Bool.and_self, Bool.not_false,
    if_true, Bool.true_eq_false, if_false, he]

/-- The same, for an owner that takes the command with a state that keeps link, interpreter and sending side. -/
theorem interpretPlain_answers {s : State} {kind : CommandKind} {f : CommandFrame} {rest : List CommandFrame}
    (h : Takes s kind f rest) {settle : List Byte → State → Settled} {t : State} {st : Status} {fields : List Byte}
    (hs : settle f.payload (s.takeOldest rest) = { state := t, status := st, fields := fields, evaluate := none }) :
    whenOperating s (interpretPlain kind settle) = .next (t.answer f st fields) := by
  rw [interpretPlain_taken h settle (by rw [hs]), hs]

/-- A command of a kind that start-up does not admit is refused with BUSY_STARTING (R169 step 2, R186). -/
theorem interpretPlain_starting {s : State} {kind : CommandKind} {f : CommandFrame} {rest : List CommandFrame}
    (hq : s.quiet = true) (hin : s.link.inbox = f :: rest) (hfree : s.canTakeFrame = true)
    (hkind : commandKindOf f.kind.toNat = some kind) (hfresh : s.isRepeat f = false)
    (hstart : s.replay.system = .starting) (hadm : kind.admittedAtStart = false)
    (settle : List Byte → State → Settled) :
    whenOperating s (interpretPlain kind settle) = .next ((s.takeOldest rest).answer f .busyStarting []) := by
  rw [whenOperating_of hq, interpretPlain, interpret, hin]
  have hs : (s.takeOldest rest).replay.system = .starting := hstart
  simp only [hfree, hkind, hfresh, settleFromLink, hs, hadm, beq_self_eq_true, Bool.and_self, Bool.not_false,
    and_self, if_true, refuse]

end Sys2Proof.Machine
end

