-- ==== Sys2Proof/Laws/Heads.lean ====
section
/-! SUPPORT. What serving a channel's head can do: it touches its own channel, the sending side and the arbiters, and never a
ring; and what the evaluation of a ticket can do. -/

namespace Sys2Proof.Machine

/-- t is s after work of the Channel Controller on channel c alone: nothing but that channel, the sending side and the
arbiters may differ, and the ring and the settings of the channel do not. -/
structure ServesOnly (c : ChannelIx) (s t : State) : Prop where
  frame : ∃ chs out arb, t = { s with channels := chs, out := out, arbiters := arb }
  others : ∀ k, k ≠ c → t.channel k = s.channel k
  ring : (t.channel c).ring = (s.channel c).ring
  pacer : (t.channel c).pacer = (s.channel c).pacer
  policy : (t.channel c).policy = (s.channel c).policy

theorem ServesOnly.refl (c : ChannelIx) (s : State) : ServesOnly c s s :=
  ⟨⟨_, _, _, rfl⟩, fun _ _ => rfl, rfl, rfl, rfl⟩

theorem ServesOnly.trans {c : ChannelIx} {s t u : State} (h : ServesOnly c s t) (h' : ServesOnly c t u) :
    ServesOnly c s u := by
  obtain ⟨⟨a1, a2, a3, ha⟩, ho, hr, hp, hy⟩ := h
  obtain ⟨⟨b1, b2, b3, hb⟩, ho', hr', hp', hy'⟩ := h'
  refine ⟨⟨b1, b2, b3, ?_⟩, fun k hk => (ho' k hk).trans (ho k hk), hr'.trans hr, hp'.trans hp, hy'.trans hy⟩
  rw [hb, ha]

/-- No ring changes, on any channel. -/
theorem ServesOnly.ring_all {c : ChannelIx} {s t : State} (h : ServesOnly c s t) (k : ChannelIx) :
    (t.channel k).ring = (s.channel k).ring := by
  by_cases hk : k = c
  · rw [hk]; exact h.ring
  · rw [h.others k hk]

theorem ServesOnly.setChannel (s : State) (c : ChannelIx) (ch : Channel) (hr : ch.ring = (s.channel c).ring)
    (hp : ch.pacer = (s.channel c).pacer) (hy : ch.policy = (s.channel c).policy) :
    ServesOnly c s (s.setChannel c ch) :=
  ⟨⟨_, s.out, s.arbiters, rfl⟩, fun k hk => by rw [setChannel_channel, if_neg hk], by simpa using hr, by simpa using hp,
    by simpa using hy⟩

/-- Work after a change of the channel's own record that keeps its ring and settings. -/
theorem ServesOnly.ofSet {c : ChannelIx} {s t : State} {ch : Channel} (h : ServesOnly c (s.setChannel c ch) t)
    (hr : ch.ring = (s.channel c).ring) (hp : ch.pacer = (s.channel c).pacer)
    (hy : ch.policy = (s.channel c).policy) : ServesOnly c s t :=
  (ServesOnly.setChannel s c ch hr hp hy).trans h

theorem ServesOnly.claim (c : ChannelIx) (s : State) (k : NoticeKind) : ServesOnly c s (s.claim k) :=
  ⟨⟨s.channels, _, s.arbiters, rfl⟩, fun _ _ => rfl, rfl, rfl, rfl⟩

theorem ServesOnly.claimIf (c : ChannelIx) (s : State) (b : Bool) (k : NoticeKind) : ServesOnly c s (s.claimIf b k) := by
  cases b
  · exact .refl c s
  · exact .claim c s k

theorem ServesOnly.storeRecord (s : State) (c : ChannelIx) (r : Record) : ServesOnly c s (s.storeRecord c r) :=
  .setChannel s c _ rfl rfl rfl

theorem ServesOnly.countFailure (s : State) (c : ChannelIx) : ServesOnly c s (s.countFailure c) :=
  .setChannel s c _ rfl rfl rfl

theorem ServesOnly.claimDescFailed (s : State) (c : ChannelIx) (r : Record) : ServesOnly c s (s.claimDescFailed c r) :=
  .claimIf c s _ _

theorem ServesOnly.haltChannel (s : State) (c : ChannelIx) (r : Record) : ServesOnly c s (s.haltChannel c r) :=
  ServesOnly.ofSet (.claim c _ _) rfl rfl rfl

theorem ServesOnly.endPass (s : State) (c : ChannelIx) : ServesOnly c s (s.endPass c) :=
  ServesOnly.ofSet (.claimIf c _ _ _) rfl rfl rfl

theorem ServesOnly.finishHead (s : State) (c : ChannelIx) : ServesOnly c s (s.finishHead c) := by
  unfold State.finishHead
  have h := (ServesOnly.setChannel s c
    { s.channel c with position := (s.channel c).position + 1, doneInPass := (s.channel c).doneInPass + 1 }
    rfl rfl rfl).trans (.claimIf c _
      (decide (2 ≤ (s.channel c).ring.length ∧ (s.channel c).doneInPass + 1 = (s.channel c).ring.length / 2)
        && (s.channel c).wants.half) (.halfPass c (s.channel c).passCount))
  dsimp only
  split
  · exact h.trans (.endPass _ c)
  · exact h

theorem ServesOnly.afterPass (s : State) (c : ChannelIx) : ServesOnly c s (s.afterPass c) := by
  unfold State.afterPass
  dsimp only
  split <;> exact .setChannel s c _ rfl rfl rfl

theorem ServesOnly.raiseOccasionIfIdle (c : ChannelIx) (s : State) (p : Port) :
    ServesOnly c s (s.raiseOccasionIfIdle p) := by
  obtain ⟨arb, h⟩ := raiseOccasionIfIdle_touches s p
  rw [h]
  exact ⟨⟨s.channels, s.out, arb, rfl⟩, fun _ _ => rfl, rfl, rfl, rfl⟩

theorem ServesOnly.offerHead (s : State) (c : ChannelIx) (p : Port) : ServesOnly c s (s.offerHead c p) := by
  unfold State.offerHead
  split
  · exact .refl c s
  · exact ServesOnly.ofSet (.raiseOccasionIfIdle c _ p) rfl rfl rfl

/-- Head evaluation, through every head that fails at once under SKIP, serves its channel only (R15). -/
theorem ServesOnly.evaluateHead (inTick : Bool) (c : ChannelIx) (fuel : Nat) (s : State) :
    ServesOnly c s (evaluateHead inTick c fuel s) := by
  induction fuel generalizing s with
  | zero => exact .refl c s
  | succ fuel ih =>
    unfold Machine.evaluateHead
    split
    · exact .refl c s
    · split
      · exact .setChannel s c _ rfl rfl rfl
      · exact .setChannel s c _ rfl rfl rfl
      · exact .offerHead s c _
      · next r _ =>
        have h := (ServesOnly.storeRecord s c { result := r, moved := 0, attempts := 0 }).trans (.countFailure _ c)
        dsimp only
        split
        · exact h.trans (.haltChannel _ c _)
        · have h2 := h.trans ((ServesOnly.claimDescFailed _ c { result := r, moved := 0, attempts := 0 }).trans
            (.finishHead _ c))
          split
          · exact h2.trans (.afterPass _ c)
          · exact h2.trans (ih _)

theorem ServesOnly.serveHead (s : State) (inTick : Bool) (c : ChannelIx) : ServesOnly c s (s.serveHead inTick c) :=
  .evaluateHead inTick c _ s

theorem ServesOnly.beginPass (s : State) (inTick : Bool) (c : ChannelIx) : ServesOnly c s (s.beginPass inTick c) :=
  ServesOnly.ofSet (.serveHead _ inTick c) rfl rfl rfl

theorem ServesOnly.finishAndGoOn (s : State) (inTick : Bool) (c : ChannelIx) :
    ServesOnly c s (s.finishAndGoOn inTick c) := by
  unfold State.finishAndGoOn
  dsimp only
  split
  · exact (ServesOnly.finishHead s c).trans (.afterPass _ c)
  · exact (ServesOnly.finishHead s c).trans (.serveHead _ inTick c)

theorem ServesOnly.holdChannel (s : State) (c : ChannelIx) : ServesOnly c s (s.holdChannel c) :=
  (ServesOnly.finishHead s c).trans (.setChannel _ c _ rfl rfl rfl)

/-- A completion taken by a RUNNING channel serves that channel only (R19 to R23, R120, R121). -/
theorem ServesOnly.takeRunning (s : State) (inTick : Bool) (c : ChannelIx) (r : Record) (o : Option WatchOutcome) :
    ServesOnly c s (s.takeRunning inTick c r o) := by
  unfold State.takeRunning
  have h := ServesOnly.storeRecord s c r
  dsimp only
  split
  · split
    · exact h.trans (.holdChannel _ c)
    · exact h.trans (.finishAndGoOn _ inTick c)
  · split
    · exact h.trans ((ServesOnly.countFailure _ c).trans (.haltChannel _ c r))
    · exact h.trans ((ServesOnly.countFailure _ c).trans ((ServesOnly.claimDescFailed _ c r).trans
        (.finishAndGoOn _ inTick c)))

/-- A completion taken by a STOPPING channel serves that channel only (R29). -/
theorem ServesOnly.takeStopping (s : State) (c : ChannelIx) (r : Record) : ServesOnly c s (s.takeStopping c r) := by
  unfold State.takeStopping
  have h := (ServesOnly.storeRecord s c r).trans
    (.setChannel _ c { (s.storeRecord c r).channel c with state := .off } rfl rfl rfl)
  dsimp only
  split
  · exact h
  · exact h.trans ((ServesOnly.countFailure _ c).trans (.claimDescFailed _ c r))

/-- An expiry serves each bound channel only (R133). -/
theorem ServesOnly.expiryAt (s : State) (c : ChannelIx) : ServesOnly c s (s.expiryAt c) := by
  have h : ServesOnly c s (s.overrun c) := ServesOnly.ofSet (.claimIf c _ _ _) rfl rfl rfl
  unfold State.expiryAt
  split
  · exact .refl c s
  · exact .beginPass s true c
  · exact h
  · exact h
  · exact h

/-! ### Tickets -/

/-- The evaluation of a ticket touches the tickets, the sending side and the arbiters only (R67, R69). -/
theorem evaluateTicket_touches (s : State) (n : Nat) :
    ∃ ts out arb, s.evaluateTicket n = { s with tickets := ts, out := out, arbiters := arb } := by
  unfold State.evaluateTicket
  split
  · exact ⟨s.tickets, s.out, s.arbiters, rfl⟩
  · split
    · exact ⟨s.tickets, s.out, s.arbiters, rfl⟩
    · split
      · exact ⟨_, _, s.arbiters, rfl⟩
      · exact ⟨_, s.out, s.arbiters, rfl⟩
      · split
        · exact ⟨s.tickets, s.out, s.arbiters, rfl⟩
        · next p _ _ =>
          obtain ⟨arb, h⟩ := raiseOccasionIfIdle_touches (s.modifyTicket n fun t => { t with state := .candidate p }) p
          exact ⟨_, s.out, arb, h⟩
      · exact ⟨s.tickets, s.out, s.arbiters, rfl⟩

/-! ### Announcements -/

/-- One party of an announcement: channels, tickets, sending side and arbiters may change, no ring does (R39, R107). -/
theorem reevaluateParty_touches (sel : Transfer → Bool) (s : State) (party : Party) :
    (∃ chs ts out arb,
      reevaluateParty sel s party = { s with channels := chs, tickets := ts, out := out, arbiters := arb })
    ∧ ∀ k, ((reevaluateParty sel s party).channel k).ring = (s.channel k).ring := by
  unfold reevaluateParty
  split
  · next c =>
    dsimp only
    split
    · have h := ServesOnly.serveHead s false c
      refine ⟨?_, fun k => h.ring_all k⟩
      obtain ⟨chs, out, arb, he⟩ := h.frame
      exact ⟨chs, s.tickets, out, arb, he⟩
    · exact ⟨⟨s.channels, s.tickets, s.out, s.arbiters, rfl⟩, fun _ => rfl⟩
  · next n =>
    split
    · obtain ⟨ts, out, arb, h⟩ := evaluateTicket_touches s n
      rw [h]
      exact ⟨⟨s.channels, ts, out, arb, rfl⟩, fun _ => rfl⟩
    · exact ⟨⟨s.channels, s.tickets, s.out, s.arbiters, rfl⟩, fun _ => rfl⟩

/-- A whole announcement. -/
theorem reevaluate_touches (s : State) (sel : Transfer → Bool) (order : List Party) :
    (∃ chs ts out arb,
      s.reevaluate sel order = { s with channels := chs, tickets := ts, out := out, arbiters := arb })
    ∧ ∀ k, ((s.reevaluate sel order).channel k).ring = (s.channel k).ring := by
  unfold State.reevaluate
  generalize s.partiesInOrder order = parties
  induction parties generalizing s with
  | nil => exact ⟨⟨s.channels, s.tickets, s.out, s.arbiters, rfl⟩, fun _ => rfl⟩
  | cons party rest ih =>
    obtain ⟨⟨c1, t1, o1, a1, h1⟩, r1⟩ := reevaluateParty_touches sel s party
    obtain ⟨⟨c2, t2, o2, a2, h2⟩, r2⟩ := ih (reevaluateParty sel s party)
    refine ⟨⟨c2, t2, o2, a2, ?_⟩, fun k => (r2 k).trans (r1 k)⟩
    rw [List.foldl_cons, h2, h1]

/-- An announcement of a port taken touches besides these the announcements still to come (R107). -/
theorem hearAnnouncement_touches (s : State) (p : Port) (order : List Party) (left : List PortState) :
    (∃ chs ts out arb, s.hearAnnouncement p order left =
      { s with portNews := s.portNews.set p left, channels := chs, tickets := ts, out := out, arbiters := arb })
    ∧ ∀ k, ((s.hearAnnouncement p order left).channel k).ring = (s.channel k).ring := by
  obtain ⟨⟨c, t, o, a, h⟩, r⟩ := reevaluate_touches { s with portNews := s.portNews.set p left } (s.liesOn p) order
  exact ⟨⟨c, t, o, a, h⟩, r⟩

/-- What a port has announced is heard without a change of any port, slot or ring (R107). -/
theorem hearPort_touches (s : State) (p : Port) :
    (∃ news chs ts out arb, s.hearPort p =
      { s with portNews := news, channels := chs, tickets := ts, out := out, arbiters := arb })
    ∧ ∀ k, ((s.hearPort p).channel k).ring = (s.channel k).ring := by
  unfold State.hearPort
  split
  · exact ⟨⟨s.portNews, s.channels, s.tickets, s.out, s.arbiters, rfl⟩, fun _ => rfl⟩
  · obtain ⟨⟨c, t, o, a, h⟩, r⟩ := hearAnnouncement_touches s p [] []
    exact ⟨⟨_, c, t, o, a, h⟩, r⟩

/-- A port that has announced nothing has nothing to be heard. -/
theorem hearPort_of_nil {s : State} {p : Port} (h : s.portNews.get p = []) : s.hearPort p = s := by
  simp [State.hearPort, h]

end Sys2Proof.Machine
end

