-- ==== Sys2Proof/Laws/Memory.lean ====
section
/-! SUPPORT. What a memory operation does to every address, and that each keeps the canonical form. -/

namespace Sys2Proof.Machine

theorem Memory.above_of_le {m : Memory} {lo lo' : Option Nat} (h : Memory.above lo' m = true)
    (hle : ∀ l, lo = some l → ∃ l', lo' = some l' ∧ l ≤ l') : Memory.above lo m = true := by
  cases m with
  | nil => rfl
  | cons cell rest =>
    obtain ⟨k, b⟩ := cell
    cases lo with
    | none => cases lo' <;> simp_all [Memory.above]
    | some l =>
      obtain ⟨l', rfl, hl⟩ := hle l rfl
      simp only [Memory.above, Bool.and_eq_true, decide_eq_true_eq] at h ⊢
      exact ⟨⟨by omega, h.1.2⟩, h.2⟩

/-- A write keeps the canonical form above any bound below the address. -/
theorem Memory.above_write {m : Memory} {lo : Option Nat} (a : Nat) (b : Byte) (h : Memory.above lo m = true)
    (ha : ∀ l, lo = some l → l < a) : Memory.above lo (m.write a b) = true := by
  induction m generalizing lo with
  | nil =>
    unfold Memory.write
    split <;> cases lo <;> simp_all [Memory.above]
  | cons cell rest ih =>
    obtain ⟨k, v⟩ := cell
    have hrest : Memory.above (some k) rest = true := by
      simp only [Memory.above, Bool.and_eq_true] at h; exact h.2
    unfold Memory.write
    by_cases hlt : a < k
    · by_cases hb : b = 0
      · simpa [hlt, hb] using h
      · cases lo <;> simp_all [Memory.above]
    · by_cases heq : a = k
      · by_cases hb : b = 0
        · subst hb heq
          simp only [lt_irrefl, if_false, if_true]
          exact Memory.above_of_le hrest fun l hl => ⟨a, rfl, by have := ha l hl; omega⟩
        · cases lo <;> simp_all [Memory.above]
      · simp only [hlt, heq, if_false]
        have := ih (lo := some k) hrest (fun l hl => by simp only [Option.some.injEq] at hl; omega)
        cases lo <;> simp_all [Memory.above]

theorem Memory.wf_write {m : Memory} (a : Nat) (b : Byte) (h : m.wf = true) : (m.write a b).wf = true :=
  Memory.above_write a b h (by simp)

theorem Memory.wf_writeBytes {m : Memory} (a : Nat) (bs : List Byte) (h : m.wf = true) :
    (m.writeBytes a bs).wf = true := by
  induction bs generalizing m a with
  | nil => exact h
  | cons b rest ih => exact ih (a + 1) (Memory.wf_write a b h)

theorem Memory.read_of_above {m : Memory} {lo : Nat} (h : Memory.above (some lo) m = true) {a : Nat} (ha : a ≤ lo) :
    m.read a = 0 := by
  induction m generalizing lo with
  | nil => rfl
  | cons cell rest ih =>
    obtain ⟨k, v⟩ := cell
    simp only [Memory.above, Bool.and_eq_true, decide_eq_true_eq] at h
    have hk : k ≠ a := by omega
    simp only [Memory.read, hk, if_false]
    exact ih h.2 (by omega)

/-- A write changes the byte at its own address only (R45). -/
theorem Memory.read_write {m : Memory} (h : m.wf = true) (a : Nat) (b : Byte) (x : Nat) :
    (m.write a b).read x = if x = a then b else m.read x := by
  suffices H : ∀ lo, Memory.above lo m = true → (m.write a b).read x = if x = a then b else m.read x from H none h
  clear h
  intro lo
  induction m generalizing lo with
  | nil =>
    intro _
    unfold Memory.write
    split
    · next hb => by_cases hx : x = a <;> simp [Memory.read, hx, hb]
    · by_cases hx : a = x
      · simp [Memory.read, hx]
      · simp [Memory.read, hx, Ne.symm hx]
  | cons cell rest ih =>
    obtain ⟨k, v⟩ := cell
    intro h
    have hrest : Memory.above (some k) rest = true := by
      simp only [Memory.above, Bool.and_eq_true] at h; exact h.2
    unfold Memory.write
    by_cases hlt : a < k
    · have hread : Memory.read ((k, v) :: rest) a = 0 := by
        have hne : ¬k = a := by omega
        simp only [Memory.read, hne, if_false]
        exact Memory.read_of_above hrest (by omega)
      by_cases hb : b = 0
      · simp only [hlt, hb, if_true]
        split
        · next hx => rw [hx]; exact hread
        · rfl
      · simp only [hlt, hb, if_true, if_false, Memory.read]
        by_cases hx : a = x
        · simp [hx]
        · simp [hx, Ne.symm hx]
    · by_cases heq : a = k
      · subst heq
        have hread : Memory.read rest a = 0 := Memory.read_of_above hrest (le_refl a)
        simp only [lt_irrefl, if_false, if_true]
        split
        · next hb =>
          by_cases hx : a = x
          · subst hx; simp [hread, hb]
          · simp [Memory.read, hx, Ne.symm hx]
        · by_cases hx : a = x
          · simp [Memory.read, hx]
          · simp [Memory.read, hx, Ne.symm hx]
      · simp only [hlt, heq, if_false, Memory.read]
        by_cases hk : k = x
        · have hx : ¬x = a := by omega
          simp [hk, hx]
        · simp only [hk, if_false]
          exact ih (some k) hrest

/-- A run of bytes changes its own positions only, each to its byte (R53). -/
theorem Memory.read_writeBytes {m : Memory} (h : m.wf = true) (a : Nat) (bs : List Byte) (x : Nat) :
    (m.writeBytes a bs).read x = if a ≤ x ∧ x < a + bs.length then bs.getD (x - a) 0 else m.read x := by
  induction bs generalizing m a with
  | nil => simp [Memory.writeBytes]
  | cons b rest ih =>
    simp only [Memory.writeBytes]
    rw [ih (Memory.wf_write a b h) (a + 1), Memory.read_write h]
    simp only [List.length_cons]
    by_cases hx : x = a
    · subst hx; simp
    · by_cases hlt : a ≤ x ∧ x < a + (rest.length + 1)
      · have h1 : a + 1 ≤ x ∧ x < a + 1 + rest.length := by omega
        have h2 : x - a = (x - (a + 1)) + 1 := by omega
        simp only [h1, hlt, and_self, if_true, h2, List.getD_cons_succ]
      · have h1 : ¬(a + 1 ≤ x ∧ x < a + 1 + rest.length) := by omega
        rw [if_neg h1, if_neg hlt, if_neg hx]

@[simp] theorem Memory.length_readBytes (m : Memory) (a n : Nat) : (m.readBytes a n).length = n := by
  simp [Memory.readBytes]

theorem Memory.getD_readBytes (m : Memory) (a n i : Nat) (hi : i < n) : (m.readBytes a n).getD i 0 = m.read (a + i) := by
  simp [Memory.readBytes, List.getD, hi]

/-- A write below a limit keeps every listed address below it. -/
theorem Memory.Below.write {m : Memory} {limit : Nat} (h : m.Below limit) {a : Nat} (ha : a < limit) (b : Byte) :
    (m.write a b).Below limit := by
  induction m with
  | nil =>
    unfold Memory.write
    split
    · exact h
    · intro cell hc; simp only [List.mem_singleton] at hc; subst hc; exact ha
  | cons cell rest ih =>
    obtain ⟨k, v⟩ := cell
    have hk : k < limit := h (k, v) (List.mem_cons_self ..)
    have hr : Memory.Below rest limit := fun c hc => h c (List.mem_cons_of_mem _ hc)
    unfold Memory.write
    intro c hc
    split at hc
    · split at hc
      · exact h c hc
      · rcases List.mem_cons.mp hc with rfl | hc
        · exact ha
        · exact h c hc
    · split at hc
      · split at hc
        · exact hr c hc
        · rcases List.mem_cons.mp hc with rfl | hc
          · exact ha
          · exact hr c hc
      · rcases List.mem_cons.mp hc with rfl | hc
        · exact hk
        · exact ih hr c hc

theorem Memory.Below.writeBytes {m : Memory} {limit : Nat} (h : m.Below limit) {a : Nat} (bs : List Byte)
    (ha : a + bs.length ≤ limit) : (m.writeBytes a bs).Below limit := by
  induction bs generalizing m a with
  | nil => exact h
  | cons b rest ih =>
    simp only [List.length_cons] at ha
    exact ih (h.write (by omega) b) (by omega)

end Sys2Proof.Machine
end

