-- ==== Sys2Proof/Laws/Engine.lean ====
section
/-! SUPPORT. What the end and the beginning of a transaction can do: the port's own engine, the blocks the rules name, and no
other port's engine. -/

namespace Sys2Proof.Machine

/-- The engine of a port as the record leaves it (R97 steps 2, 4 and 5). -/
def Engine.ended (e : Engine) (t : Transaction) (r : Result) (rec_ : Record) (o : Option WatchOutcome) : Engine :=
  match t.owner with
  | .replay => (e.countCompletion r).letGo
  | .channel _ | .ticket _ =>
    { (e.countCompletion r).letGo with
      record := some { record := rec_, owner := t.owner, slot := t.transfer.slot, outcome := o } }

/-- The WATCH part of a completion touches staging memory and the sending side only (R97 step 1). -/
theorem settleWatch_touches (s : State) (e : Engine) (t : Transaction) (r : Result) :
    ∃ st out, s.settleWatch e t r = { s with staging := st, out := out } := by
  unfold State.settleWatch
  split
  · split
    · exact ⟨_, _, claimIf_eq _ _ _⟩
    · exact ⟨s.staging, s.out, rfl⟩
  · exact ⟨s.staging, s.out, rfl⟩
  · exact ⟨s.staging, s.out, rfl⟩

/-- Only a WATCH that ends with DONE touches staging memory at its end (R48, R119). -/
theorem settleWatch_not_done {s : State} {e : Engine} {t : Transaction} {r : Result} (h : r ≠ .done) :
    s.settleWatch e t r = s := by
  unfold State.settleWatch
  split
  · rw [if_neg h]
  · rfl
  · rfl

/-- The record leaves the engine: the busy range, the arbiters, the port's own engine and the Replay Unit's record may change
(R97 steps 3 and 4, R180). -/
theorem passRecord_touches (s : State) (p : Port) (t : Transaction) (rec_ : Record) (o : Option WatchOutcome) :
    ∃ busy arb rep, s.passRecord p t rec_ o =
      { s with
        busy := busy, arbiters := arb, replay := { s.replay with record := rep }
        engines := s.engines.set p
          (match t.owner with
          | .replay => s.engine p
          | .channel _ | .ticket _ =>
            { s.engine p with
              record := some { record := rec_, owner := t.owner, slot := t.transfer.slot, outcome := o } }) } := by
  unfold State.passRecord
  obtain ⟨arb, h⟩ := releaseRange_touches s p
  split
  · next ho =>
    refine ⟨s.busy, s.arbiters, some rec_, ?_⟩
    simp only [ho]
    cases p <;> rfl
  · next ho => exact ⟨s.busy.set p none, arb, s.replay.record, by simp only [ho, h]; cases p <;> rfl⟩
  · next ho => exact ⟨s.busy.set p none, arb, s.replay.record, by simp only [ho, h]; cases p <;> rfl⟩

/-- The engine after the port has taken its course (R96, R97 step 5). -/
def Engine.onCourse (e : Engine) (course : Course) (inTick : Bool) : Engine :=
  match course with
  | .idle =>
    if e.ptResetRequested then { e.beginRecovery inTick with portState := .recovering } else { e with portState := .idle }
  | .recovering => { e.beginRecovery inTick with portState := .recovering }
  | .failed => { e with portState := .failed }

theorem takeCourse_touches (s : State) (p : Port) (course : Course) (inTick : Bool) :
    ∃ news arb, s.takeCourse p course inTick =
      { s with
        engines := s.engines.set p ((s.engine p).onCourse course inTick), portNews := news, arbiters := arb } := by
  unfold State.takeCourse Engine.onCourse
  split
  · split
    · exact enterRecovery_touches s p inTick
    · exact enterPortState_touches s p .idle
  · exact enterRecovery_touches s p inTick
  · exact enterPortState_touches s p .failed

/-- The state that the course gives the port is announced when it differs from the one the port had (R97 step 6, R107). -/
theorem takeCourse_news (s : State) (p : Port) (course : Course) (inTick : Bool) :
    (s.takeCourse p course inTick).portNews =
      if ((s.engine p).onCourse course inTick).portState = s.portState p then s.portNews
      else s.portNews.set p (s.portNews.get p ++ [((s.engine p).onCourse course inTick).portState]) := by
  unfold State.takeCourse Engine.onCourse
  split
  · split
    · exact enterRecovery_news s p inTick
    · exact enterPortState_news s p .idle
  · exact enterRecovery_news s p inTick
  · exact enterPortState_news s p .failed

/-- The end of a transaction (R97): staging memory and the sending side as the WATCH part leaves them, the busy range, the
arbiters, the announcements, the Replay Unit's record, and of the engines the port's own. -/
theorem endTransaction_touches (s : State) (p : Port) (e : Engine) (t : Transaction) (r : Result) (course : Course)
    (inTick : Bool) :
    ∃ busy arb news rep, s.endTransaction p e t r course inTick =
      { s with
        staging := (s.settleWatch e t r).staging, out := (s.settleWatch e t r).out
        busy := busy, arbiters := arb, portNews := news, replay := { s.replay with record := rep }
        engines := s.engines.set p
          ((e.ended t r { result := r, moved := e.bytesMoved t r, attempts := e.attempts }
            (s.watchOutcome e t r)).onCourse course inTick) } := by
  obtain ⟨st, out, hw⟩ := settleWatch_touches s e t r
  unfold State.endTransaction
  rw [hw]
  generalize hs1 : ({ s with staging := st, out := out } : State).setEngine p (e.countCompletion r) = s1
  obtain ⟨busy, arb, rep, hp⟩ := passRecord_touches s1 p t
    { result := r, moved := e.bytesMoved t r, attempts := e.attempts } (s.watchOutcome e t r)
  dsimp only
  rw [hp]
  generalize hs3 : State.setArbiter _ p _ = s3
  obtain ⟨news, arb', hc⟩ := takeCourse_touches s3 p course inTick
  rw [hc]
  refine ⟨busy, arb', news, rep, ?_⟩
  subst hs3 hs1
  unfold Engine.ended
  cases t.owner <;> cases p <;> rfl

/-- A transaction begins (R80, R81): the port's own engine, the announcements and the arbiters. -/
theorem beginTransaction_touches (s : State) (p : Port) (t : Transaction) (lines : Lines) :
    ∃ news arb, s.beginTransaction p t lines =
      { s with
        portNews := news, arbiters := arb
        engines := s.engines.set p
          (if lines.bothHigh then ({ (s.engine p).take t with portState := .busy } : Engine).beginFirstAttempt t
          else { ({ (s.engine p).take t with portState := .busy } : Engine).beginRecovery false with
                 portState := .recovering }) } := by
  unfold State.beginTransaction
  obtain ⟨news, arb, h⟩ := enterPortState_touches (s.setEngine p ((s.engine p).take t)) p .busy
  dsimp only
  rw [h]
  split
  · refine ⟨news, arb, ?_⟩
    cases p <;> rfl
  · obtain ⟨news', arb', h'⟩ := enterRecovery_touches
      { s.setEngine p ((s.engine p).take t) with
        engines := (s.setEngine p ((s.engine p).take t)).engines.set p
          { (s.setEngine p ((s.engine p).take t)).engine p with portState := .busy }
        portNews := news, arbiters := arb } p false
    rw [h']
    refine ⟨news', arb', ?_⟩
    cases p <;> rfl

/-- While a step of a transaction goes on it changes its own engine only; else the transaction ends. -/
theorem proceed_cases (s : State) (p : Port) (t : Transaction) (inTick : Bool) (pr : Progress) :
    (∃ e, pr = .goesOn e ∧ s.proceed p t inTick pr = s.setEngine p e)
    ∨ ∃ e r course, pr = .ends e r course ∧ s.proceed p t inTick pr = s.endTransaction p e t r course inTick := by
  cases pr with
  | goesOn e => exact .inl ⟨e, rfl, rfl⟩
  | ends e r course => exact .inr ⟨e, r, course, rfl, rfl⟩

/-- Where a bus event of a BUSY port acts, it acts on that port's engine and transaction. -/
theorem whenBusy_of {p : Port} {s : State} {t : Transaction} (ht : (s.engine p).transaction = some t)
    (hb : (s.engine p).portState = .busy) (f : Engine → Transaction → State) : whenBusy p s f = f (s.engine p) t := by
  simp [whenBusy, ht, hb]

theorem whenBusy_keeps {P : State → Prop} {p : Port} {s : State} {f : Engine → Transaction → State}
    (hf : ∀ t, (s.engine p).transaction = some t → (s.engine p).portState = .busy → P (f (s.engine p) t)) (hs : P s) :
    P (whenBusy p s f) := by
  unfold whenBusy
  split
  · exact hs
  · next t ht =>
    split
    · next hb => exact hf t ht hb
    · exact hs

/-- Where a step of a recovery arises, it acts once the engine's record has gone to its owner (R97, R101). -/
theorem whenRecovering_of {p : Port} {s : State} {r : Recovery} {arises : Recovery → Option Nat → Bool}
    (hr : (s.engine p).recovery = some r) (hp : (s.engine p).portState = .recovering)
    (ha : arises r (s.engine p).waitTimer = true) (f : State → Engine → Recovery → State) :
    whenRecovering p s arises f = f (s.onTargetAccounting p) ((s.onTargetAccounting p).engine p) r := by
  simp [whenRecovering, hr, hp, ha]

/-- Without a record in the engine the step acts on the state as it stands. -/
theorem whenRecovering_of_taken {p : Port} {s : State} {r : Recovery} {arises : Recovery → Option Nat → Bool}
    (hr : (s.engine p).recovery = some r) (hp : (s.engine p).portState = .recovering)
    (ha : arises r (s.engine p).waitTimer = true) (hrec : (s.engine p).record = none)
    (f : State → Engine → Recovery → State) : whenRecovering p s arises f = f s (s.engine p) r := by
  have h : s.onTargetAccounting p = s := by simp [State.onTargetAccounting, hrec]
  rw [whenRecovering_of hr hp ha, h]

theorem whenRecovering_keeps {P : State → Prop} {p : Port} {s : State} {arises : Recovery → Option Nat → Bool}
    {f : State → Engine → Recovery → State}
    (hf : ∀ r, (s.engine p).recovery = some r → (s.engine p).portState = .recovering →
      arises r (s.engine p).waitTimer = true → P (f (s.onTargetAccounting p) ((s.onTargetAccounting p).engine p) r))
    (hs : P s) : P (whenRecovering p s arises f) := by
  unfold whenRecovering
  split
  · exact hs
  · next r hr =>
    split
    · next h => exact hf r hr h.1 h.2
    · exact hs

/-! ### Expiries that are not due -/

/-- R125: an interval of a BUSY port that has not run out has no effect. -/
theorem whenBusy_not_due {s : State} {p : Port} {due : Engine → Bool} (h : s.busyDue p due = false)
    {f : Engine → Transaction → State}
    (hf : ∀ t, due (s.engine p) = false → f (s.engine p) t = s) : whenBusy p s f = s := by
  refine whenBusy_keeps (P := fun u => u = s) (fun t ht hb => hf t ?_) rfl
  simpa [State.busyDue, State.portState, ht, hb] using h

/-- R125: an interval of a recovery that has not run out has no effect. -/
theorem whenRecovering_not_due {s : State} {p : Port} {due : Recovery → Option Nat → Bool}
    (h : s.recoveryDue p due = false) (f : State → Engine → Recovery → State) : whenRecovering p s due f = s := by
  refine whenRecovering_keeps (P := fun u => u = s) (fun r hr hp ha => ?_) rfl
  simp [State.recoveryDue, State.portState, hr, hp, ha] at h

/-- R125: an interval that no tick has ended has no effect. -/
theorem expire_of_not_due {s : State} {x : Expiry} (h : s.isDue x = false) : s.expire x = s := by
  cases x with
  | pacer n => simp_all [State.isDue, State.expire, State.onPacerExpiry]
  | pause c => simp_all [State.isDue, State.expire, State.onPauseExpiry]
  | passGap c => simp_all [State.isDue, State.expire, State.onPassGapEnd]
  | linkGap => simp_all [State.isDue, State.expire, State.onGapExpiry]
  | retransmit n => simp_all [State.isDue, State.expire, State.onRetransmitTimerExpiry]
  | stretch p =>
    unfold State.expire State.onStretchTimeout
    exact whenBusy_not_due h fun t ht => by simp [ht]
  | stopClockWait p =>
    unfold State.expire State.onStopClockWaitExpiry
    exact whenBusy_not_due h fun t ht => by simp [ht]
  | cycleLimit p b =>
    unfold State.expire State.onCycleLimitExpiry
    exact whenBusy_not_due h fun t ht => by simp [ht]
  | retryGap p =>
    unfold State.expire State.onRetryGapEnd
    exact whenBusy_not_due h fun t ht => by simp [ht]
  | recoveryClockWait p =>
    unfold State.expire State.onRecoveryClockWaitExpiry
    exact whenRecovering_not_due h _
  | recoveryGap p =>
    unfold State.expire State.onRecoveryGapEnd
    exact whenRecovering_not_due h _

/-! ### What TARGET_ACCOUNTING can touch (R37, R38, R62) -/

/-- R37: accounting a result touches the slot, its announcement and the sending side alone. -/
theorem accountSlot_touches (s : State) (n : SlotIx) (r : Result) :
    ∃ slots news out, s.accountSlot n r = { s with slots := slots, slotNews := news, out := out } := by
  unfold State.accountSlot
  dsimp only
  split <;> exact ⟨_, _, _, rfl⟩

/-- R62: handing a record on touches its owner alone. -/
theorem deliver_touches (s : State) (m : MadeRecord) :
    ∃ channels tickets, s.deliver m = { s with channels := channels, tickets := tickets } := by
  unfold State.deliver
  split <;> exact ⟨_, _, rfl⟩

/-- R37, R97: taking a record empties the engine's and leaves every other part of the engines. -/
theorem onTargetAccounting_touches (s : State) (p : Port) :
    ∃ slots news out channels tickets, s.onTargetAccounting p =
      { s with
        slots := slots, slotNews := news, out := out, channels := channels, tickets := tickets
        engines := s.engines.set p { s.engine p with record := none } } := by
  unfold State.onTargetAccounting
  split
  · next h =>
    refine ⟨s.slots, s.slotNews, s.out, s.channels, s.tickets, ?_⟩
    have he : ({ s.engine p with record := none } : Engine) = s.engine p := by rw [← h]
    rw [he]
    exact (setEngine_engine_self s p).symm
  · next m _ =>
    obtain ⟨slots, news, out, ha⟩ :=
      accountSlot_touches (s.setEngine p { s.engine p with record := none }) m.slot m.record.result
    rw [ha]
    obtain ⟨channels, tickets, hd⟩ := deliver_touches
      { s.setEngine p { s.engine p with record := none } with slots := slots, slotNews := news, out := out } m
    rw [hd]
    exact ⟨slots, news, out, channels, tickets, rfl⟩

/-- R97: after it the engine of the port holds no record and is otherwise as before. -/
@[simp] theorem onTargetAccounting_engine (s : State) (p : Port) :
    (s.onTargetAccounting p).engine p = { s.engine p with record := none } := by
  obtain ⟨_, _, _, _, _, h⟩ := onTargetAccounting_touches s p
  rw [h]
  exact PerPort.get_set_same s.engines p _

/-- A START that is begun changes what the engine is doing and nothing else (log entry 17). -/
theorem startBegun_touches (e : Engine) : ∃ a, e.startBegun = { e with activity := a } := ⟨_, rfl⟩

/-- The same of the engine as a step finds it. -/
theorem found_touches (e : Engine) (b : Bool) : ∃ a, e.found b = { e with activity := a } := by
  cases b
  · exact ⟨e.activity, rfl⟩
  · exact startBegun_touches e

end Sys2Proof.Machine
end

