-- ==== Sys2Proof/Laws/Line.lean ====
section
/-! SUPPORT. The line of the control link: a character's bits and the levels of LTX. -/

namespace Sys2Proof.Machine

@[simp] theorem dataBitsOf_length (char : Byte) : (dataBitsOf char).length = 8 := by simp [dataBitsOf]

@[simp] theorem characterSignal_length (char : Byte) : (characterSignal char).length = 10 := by simp [characterSignal]

set_option maxRecDepth 8000 in
/-- The bits of a character are the character. -/
@[simp] theorem characterOfBits_dataBitsOf (char : Byte) : characterOfBits (dataBitsOf char) = char := by
  revert char; decide +kernel

/-- The line is high between frames (R167). -/
theorem ltx_idle {s : State} (h : s.out.sending = none) : s.ltx = [true] := by simp [State.ltx, h]

theorem ltx_sending {s : State} {f : Sending} (h : s.out.sending = some f) : s.ltx = f.signal := by simp [State.ltx, h]

end Sys2Proof.Machine
end

