-- ==== Sys2Proof/Laws/Notices.lean ====
section
/-! SUPPORT. What a claim and the transmitter's choice can do. -/

namespace Sys2Proof.Machine

/-! ### Changing the first of a list -/

theorem modifyFirst_map {α β : Type} (p : α → Bool) (f : α → α) (g : α → β) (h : ∀ x, g (f x) = g x) (l : List α) :
    (modifyFirst p f l).map g = l.map g := by
  induction l with
  | nil => rfl
  | cons x rest ih =>
    unfold modifyFirst
    split
    · simp [h]
    · simp [ih]

@[simp] theorem modifyFirst_length {α : Type} (p : α → Bool) (f : α → α) (l : List α) :
    (modifyFirst p f l).length = l.length := by
  induction l with
  | nil => rfl
  | cons x rest ih =>
    unfold modifyFirst
    split
    · rfl
    · simp [ih]

theorem mem_modifyFirst {α : Type} {p : α → Bool} {f : α → α} {l : List α} {y : α} (h : y ∈ modifyFirst p f l) :
    y ∈ l ∨ ∃ x ∈ l, p x = true ∧ y = f x := by
  induction l with
  | nil => cases h
  | cons x rest ih =>
    unfold modifyFirst at h
    split at h
    · next hp =>
      rcases List.mem_cons.mp h with rfl | h
      · exact .inr ⟨x, List.mem_cons_self .., hp, rfl⟩
      · exact .inl (List.mem_cons_of_mem _ h)
    · rcases List.mem_cons.mp h with rfl | h
      · exact .inl (List.mem_cons_self ..)
      · rcases ih h with h | ⟨x', hx', hp, rfl⟩
        · exact .inl (List.mem_cons_of_mem _ h)
        · exact .inr ⟨x', List.mem_cons_of_mem _ hx', hp, rfl⟩

/-! ### A claim settled (R139 to R142) -/

/-- A claim merges, is stored, displaces a notice and is stored, or is discarded. -/
theorem settle_cases (q : NoticeQueue) (k : NoticeKind) :
    (canMerge q.held k = true
      ∧ q.settle k = { q with held := mergeInto q.held k
                              counters := { q.counters with created := q.counters.created + 1
                                                            merged := q.counters.merged + 1 } })
    ∨ (canMerge q.held k = false ∧ q.held.length < Config.noticeMax
      ∧ q.settle k = { q with counters := { q.counters with created := q.counters.created + 1 } }.store k)
    ∨ (canMerge q.held k = false ∧ Config.noticeMax ≤ q.held.length
      ∧ ∃ rest, displace q.held k.noticeClass = some rest
        ∧ q.settle k = { q with held := rest
                                counters := { q.counters with created := q.counters.created + 1
                                                              discarded := q.counters.discarded + 1 } }.store k)
    ∨ (canMerge q.held k = false ∧ Config.noticeMax ≤ q.held.length ∧ displace q.held k.noticeClass = none
      ∧ q.settle k = { q with counters := { q.counters with created := q.counters.created + 1
                                                            discarded := q.counters.discarded + 1 } }) := by
  unfold NoticeQueue.settle
  dsimp only
  split
  · next hm => exact .inl ⟨hm, rfl⟩
  · next hm =>
    simp only [Bool.not_eq_true] at hm
    split
    · next hl => exact .inr (.inl ⟨hm, hl, rfl⟩)
    · next hl =>
      split
      · next rest hd => exact .inr (.inr (.inl ⟨hm, by omega, rest, hd, rfl⟩))
      · next hd => exact .inr (.inr (.inr ⟨hm, by omega, hd, rfl⟩))

/-- A notice displaced is QUEUED, of class INFO or STATUS, and held until then (R142). -/
theorem displace_some {held rest : List Notice} {cls : NoticeClass} (h : displace held cls = some rest) :
    ∃ c, (c = .info ∨ c = .status) ∧ held.any (Notice.queuedOf c) = true ∧ rest = held.eraseP (Notice.queuedOf c) := by
  unfold displace at h
  split at h
  · cases h
  · split at h
    · next ha => exact ⟨.info, .inl rfl, ha, by simpa using h.symm⟩
    · cases h
  · split at h
    · next ha => exact ⟨.info, .inl rfl, ha, by simpa using h.symm⟩
    · split at h
      · next ha => exact ⟨.status, .inr rfl, ha, by simpa using h.symm⟩
      · cases h

/-! ### The transmitter's choice (R145) -/

/-- At an occasion the transmitter keeps what it has, sends the waiting reply, sends a due notice again, or sends a QUEUED
notice for the first time. -/
theorem choose_cases (o : Outbound) :
    o.choose = o
    ∨ (∃ r, o.reply = .pending r
      ∧ o.choose = { o with reply := .sending r, sending := some { source := .reply, bytes := r.frame } })
    ∨ (o.notices.muted = false ∧ o.notices.held.any Notice.isDue = true ∧ o.choose = o.sendNotice Notice.isDue true)
    ∨ (o.notices.muted = false ∧ windowCount o.notices.held < Config.windowMax
      ∧ o.choose = o.sendNotice (Notice.queuedOf (nextQueuedClass o.notices.held)) false) := by
  unfold Outbound.choose
  split
  · exact .inl rfl
  · split
    · next r hr => exact .inr (.inl ⟨r, hr, rfl⟩)
    · split
      · exact .inl rfl
      · next hm =>
        simp only [Bool.not_eq_true] at hm
        split
        · next hd => exact .inr (.inr (.inl ⟨hm, hd, rfl⟩))
        · split
          · next hw => exact .inr (.inr (.inr ⟨hm, hw, rfl⟩))
          · exact .inl rfl
    · split
      · exact .inl rfl
      · next hm =>
        simp only [Bool.not_eq_true] at hm
        split
        · next hd => exact .inr (.inr (.inl ⟨hm, hd, rfl⟩))
        · split
          · next hw => exact .inr (.inr (.inr ⟨hm, hw, rfl⟩))
          · exact .inl rfl

/-- While a frame is being sent, after the reply to RESTART, and before the interpreter's taking no choice is made. -/
theorem choose_waits {o : Outbound} (h : o.sending ≠ none ∨ o.restart = .replyGone ∨ o.takingNext = true) :
    o.choose = o := by
  unfold Outbound.choose
  rw [if_pos]
  rcases h with h | h | h
  · simp [Option.isSome_iff_ne_none.mpr h]
  · simp [h]
  · simp [h]

/-- The sending of a notice, where it stands in the held list: it alone changes, and its frame is on the link (R146, R148). -/
theorem sendNotice_at {o : Outbound} {sel : Notice → Bool} {before after : List Notice} {n : Notice}
    (hh : o.notices.held = before ++ n :: after) (hn : sel n = true) (hb : ∀ m ∈ before, sel m = false) (again : Bool) :
    o.sendNotice sel again =
      { o with
        notices := { o.notices with
          held := before ++ n.sent :: after
          counters :=
            if again then { o.notices.counters with retransmissions := o.notices.counters.retransmissions + 1 }
            else o.notices.counters }
        sending := some { source := .notice n.number, bytes := n.sent.frame (discardedStamp o.notices.counters) } } := by
  have split : ∀ before : List Notice, (∀ m ∈ before, sel m = false) →
      modifyFirst sel Notice.sent (before ++ n :: after) = before ++ n.sent :: after
      ∧ (before ++ n :: after).find? sel = some n := by
    intro before
    induction before with
    | nil => intro _; simp [modifyFirst, hn]
    | cons a as ih =>
      intro hb
      have ha := hb a (by simp)
      simp [modifyFirst, ha, ih (fun m hm => hb m (by simp [hm]))]
  unfold Outbound.sendNotice
  simp only [hh, (split before hb).1, (split before hb).2]

/-- What the sending of frames leaves of the held notices: their numbers and kinds in order, and every counter but the
retransmissions. -/
structure SameNotices (q r : NoticeQueue) : Prop where
  numbers : r.held.map (·.number) = q.held.map (·.number)
  kinds : r.held.map (·.kind) = q.held.map (·.kind)
  merges : r.held.map (·.merges) = q.held.map (·.merges)
  next : r.nextNumber = q.nextNumber
  muted : r.muted = q.muted
  attention : r.attnLow = q.attnLow
  counters : r.counters = { q.counters with retransmissions := r.counters.retransmissions }

theorem SameNotices.refl (q : NoticeQueue) : SameNotices q q := ⟨rfl, rfl, rfl, rfl, rfl, rfl, rfl⟩

theorem sendNotice_sameNotices (o : Outbound) (sel : Notice → Bool) (again : Bool) :
    SameNotices o.notices (o.sendNotice sel again).notices := by
  unfold Outbound.sendNotice
  split
  · exact .refl _
  · refine ⟨modifyFirst_map sel Notice.sent _ (fun _ => rfl) _, modifyFirst_map sel Notice.sent _ (fun _ => rfl) _,
      modifyFirst_map sel Notice.sent _ (fun _ => rfl) _, rfl, rfl, rfl, ?_⟩
    cases again <;> rfl

theorem choose_sameNotices (o : Outbound) : SameNotices o.notices o.choose.notices := by
  rcases choose_cases o with h | ⟨r, _, h⟩ | ⟨_, _, h⟩ | ⟨_, _, h⟩
  · rw [h]; exact .refl _
  · rw [h]; exact .refl _
  · rw [h]; exact sendNotice_sameNotices o _ _
  · rw [h]; exact sendNotice_sameNotices o _ _

/-- The choice never touches the stage of RESTART (R176). -/
theorem choose_restart (o : Outbound) : o.choose.restart = o.restart := by
  have hs : ∀ sel again, (o.sendNotice sel again).restart = o.restart := by
    intro sel again
    unfold Outbound.sendNotice
    split <;> rfl
  rcases choose_cases o with h | ⟨r, _, h⟩ | ⟨_, _, h⟩ | ⟨_, _, h⟩ <;> rw [h]
  · exact hs _ _
  · exact hs _ _

/-- A reply placed while the transmitter is idle, and no RESTART is under way, is sent at once (R145 item 1). -/
theorem placeReply_idle {o : Outbound} (r : Reply) (hs : o.sending = none) (hr : o.restart ≠ .replyGone) :
    o.placeReply r =
      { o with reply := .sending r, sending := some { source := .reply, bytes := r.frame }, takingNext := false } := by
  simp [Outbound.placeReply, Outbound.choose, hs, hr]

/-- A reply placed while a frame is being sent waits (R144). -/
theorem placeReply_busy {o : Outbound} (r : Reply) (hs : o.sending ≠ none) :
    o.placeReply r = { o with reply := .pending r, takingNext := false } := by
  cases ho : o.sending with
  | none => exact absurd ho hs
  | some f => simp [Outbound.placeReply, Outbound.choose, ho]

end Sys2Proof.Machine
end

