-- ==== Sys2Proof/Tests/Slice0.lean ====
section
/-! SUPPORT. The model's own tests: the check of ill-formed commands, the worked bytes of the spec, and for every statement with
hypotheses a concrete state and operands that meet them, with what the one step then does. -/

namespace Sys2Proof.Tests

open Sys2Proof Sys2Proof.Machine

/-! ### Ill-formed commands are refused by the check -/

theorem test_wf_refuses_ticket_completion : (Instr.ticketCompletion 256).wf = false := by decide
theorem test_wf_refuses_retransmit_expiry : (Instr.retransmitTimerExpiry 256).wf = false := by decide
theorem test_wf_refuses_slot_announcement : (Instr.slotAnnouncement 0 [.ticket 256]).wf = false := by decide
theorem test_wf_refuses_port_announcement : (Instr.portAnnouncement .a [.channel 0, .ticket 256]).wf = false := by decide
theorem test_wf_refuses_byte_of_seven_bits : (Instr.byteComplete .a (List.replicate 7 true) true).wf = false := by decide
theorem test_wf_refuses_byte_of_nine_bits : (Instr.byteComplete .a (List.replicate 9 true) true).wf = false := by decide
theorem test_wf_refuses_character_of_seven_bits : (Instr.receiveCharacter (List.replicate 7 true) true).wf = false := by
  decide
theorem test_wf_refuses_character_of_nine_bits : (Instr.receiveCharacter (List.replicate 9 true) true).wf = false := by
  decide
theorem test_wf_accepts : (Instr.ticketCompletion 255).wf = true ∧ (Instr.slotAnnouncement 31 [.ticket 0]).wf = true
    ∧ (Instr.byteComplete .d (bitsOf 0xA5) false).wf = true ∧ (Instr.receiveCharacter (dataBitsOf 0xC5) false).wf = true := by
  decide

/-! ### Worked bytes of the spec -/

/-- R159: the check value of this CRC for the nine characters 1 to 9. -/
theorem test_crc_check_value :
    crc16 [0x31, 0x32, 0x33, 0x34, 0x35, 0x36, 0x37, 0x38, 0x39] = 0x29B1 := by decide +kernel

/-- Section 12.7: the body of the XFER_DONE of ticket 17, stored as notice 5. -/
theorem test_xfer_done_frame :
    (({ number := 5, kind := .xferDone 17 .done 4, merges := 0, transmissions := 1, inWindow := true, timer := .none } :
      Notice).frame 0).take 14
      = [0xC5, 0x0C, 0x03, 0x05, 0x06, 0x02, 0x00, 0x01, 0x00, 0x00, 0x11, 0x00, 0x04, 0x00] := by decide +kernel

theorem test_withFetchWord_spells_nothing : State.withFetchWord State.reset 0 0 = State.reset := by rfl

/-- Section 12.4: the three descriptors, decoded and encoded. -/
theorem test_descriptor_bytes :
    descriptorOf [0x02, 0x0E, 0x32, 0x00, 0xC8, 0x00, 0x00, 0x08] =
      some (.transfer { op := .write, slot := 14, offset := 50, length := 200, position := 2048 })
    ∧ descriptorOf [0x03, 0x15, 0x00, 0x00, 0x02, 0x00, 0xA0, 0x2F] =
      some (.transfer { op := .watch .onChange false, slot := 21, offset := 0, length := 2, position := 4000 })
    ∧ descriptorOf [0x04, 0x00, 0x14, 0x00, 0x00, 0x00, 0x00, 0x00] = some (.pause 20)
    ∧ (Descriptor.transfer
        { op := .watch .onChange true, slot := 21, offset := 0, length := 2, position := 4000 }).bytes =
      [0x03, 0x15, 0x00, 0x00, 0x02, 0x00, 0xA0, 0xAF] := by decide +kernel

/-- R85: the four segments of 200 bytes from offset 50 with a page of 64. -/
theorem test_segments :
    let t : Transaction :=
      { owner := .channel 3, index := 0
        transfer := { op := .write, slot := 14, offset := 50, length := 200, position := 2048 }
        defn :=
          { port := .a, address := 0x52, kind := .memory, offsetWidth := 2, extent := 32768, pageSize := 64
            speed := .khz400, stretchLimit := 10, cycleLimit := 10, retries := 2, fenceThreshold := 3 } }
    [t.segmentAt 0 1, t.segmentAt 14 2, t.segmentAt 78 3, t.segmentAt 142 4] =
      [{ first := 50, length := 14, place := 1 }, { first := 64, length := 64, place := 2 },
       { first := 128, length := 64, place := 3 }, { first := 192, length := 58, place := 4 }] := by decide +kernel

/-! ### States that the witnesses stand on -/

/-- A part in operation, READY, with nothing configured. -/
def ready : State := { State.reset with powerOnHold := false, replay := { Replay.atReset with system := .ready } }

/-- The frame of a command, with this kind and payload. -/
def frameOf (kind : Byte) (payload : List Byte) : CommandFrame := { tag := 7, kind := kind, payload := payload, crc := 0xABCD }

/-- The frame waits in the inbox. -/
def offered (s : State) (kind : Byte) (payload : List Byte) : State :=
  { s with link := { s.link with inbox := [frameOf kind payload] } }

/-- The interpreter can take the frame of this kind now. -/
def takesNow (s : State) (kind : CommandKind) (f : CommandFrame) (rest : List CommandFrame) : Bool :=
  s.quiet && decide (s.link.inbox = f :: rest) && s.canTakeFrame
  && decide (commandKindOf f.kind.toNat = some kind) && !s.isRepeat f
  && (decide (s.replay.system = .ready) || kind.admittedAtStart) && kind.lengthFits f.payload

theorem takes_of_takesNow {s : State} {kind : CommandKind} {f : CommandFrame} {rest : List CommandFrame}
    (h : takesNow s kind f rest = true) : Takes s kind f rest := by
  simp only [takesNow, Bool.and_eq_true, Bool.or_eq_true, decide_eq_true_eq, Bool.not_eq_true'] at h
  obtain ⟨⟨⟨⟨⟨⟨h1, h2⟩, h3⟩, h4⟩, h5⟩, h6⟩, h7⟩ := h
  exact ⟨h1, h2, h3, h4, h5, h6, h7⟩

/-- A step answers a next state that passes a check. -/
def shows (o : StepOutcome) (check : State → Bool) : Bool :=
  match o with
  | .next t => check t
  | .fault _ => false
  | .refused _ => false

/-- A step answers a next state in which a reply with this status and these fields has gone on its way. -/
def answers (o : StepOutcome) (st : Status) (fields : List Byte) : Bool :=
  shows o fun t =>
    match t.out.reply with
    | .sending r => r.status == st && r.fields == fields
    | .pending r => r.status == st && r.fields == fields
    | .empty => false

/-- A REGISTER target on port A. -/
def monitor : Target where
  defn := { port := .a, address := 0x20, kind := .register, offsetWidth := 1, extent := 16, pageSize := 0
            speed := .khz100, stretchLimit := 5, cycleLimit := 0, retries := 1, fenceThreshold := 3 }
  standing := .online
  count := 0

/-- A MEMORY target on port B. -/
def store : Target where
  defn := { port := .b, address := 0x50, kind := .memory, offsetWidth := 2, extent := 32768, pageSize := 64
            speed := .khz400, stretchLimit := 10, cycleLimit := 10, retries := 2, fenceThreshold := 3 }
  standing := .suspect
  count := 2

/-- The part with monitor in slot 0 and store in slot 31. -/
def board : State :=
  (ready.setSlot 0 { target := some monitor, inFlight := false }).setSlot 31 { target := some store, inFlight := false }

/-- The last 12 bytes of staging memory read from the end of monitor's extent. -/
def readLast : Transfer := { op := .read, slot := 0, offset := 4, length := 12, position := 8180 }
/-- A write to store that ends with its extent. -/
def writeLast : Transfer := { op := .write, slot := 31, offset := 32568, length := 200, position := 7992 }
/-- A WATCH of monitor whose block ends with staging memory. -/
def watchLast : Transfer := { op := .watch .onChange true, slot := 0, offset := 0, length := 16, position := 8144 }

def readNow : Transaction := { owner := .channel 7, index := 0, transfer := readLast, defn := monitor.defn }
def writeNow : Transaction := { owner := .ticket 255, index := 0, transfer := writeLast, defn := store.defn }
def watchNow : Transaction := { owner := .channel 7, index := 1, transfer := watchLast, defn := monitor.defn }

/-- A channel of board. -/
def withChannel7 (ch : Channel) : State := board.setChannel 7 ch

/-- A channel with a READ and a PAUSE in its ring. -/
def looped : Channel := { Channel.atReset with ring := [.transfer readLast, .pause 20], mode := .circular }

/-- An engine of port A that is at this point of a transaction. -/
def atPoint (t : Transaction) (a : Activity) : Engine :=
  { Engine.atReset with portState := .busy, activity := a, transaction := some t, attempts := 1 }

def onBus (e : Engine) : State := board.setEngine .a e

/-- An engine of port A at this step of a recovery. -/
def atRecovery (r : Recovery) (timer : Option Nat) (t : Option Transaction) : State :=
  board.setEngine .a
    { Engine.atReset with portState := .recovering, recovery := some r, waitTimer := timer, transaction := t }

/-- A notice held. -/
def heldNotice (n : Nat) (k : NoticeKind) (window : Bool) (sent : Nat) (timer : NoticeTimer) : Notice :=
  { number := n, kind := k, merges := 0, transmissions := sent, inWindow := window, timer := timer }

/-- board with these notices held. -/
def holding (ns : List Notice) : State :=
  { board with out := { board.out with notices := { board.out.notices with held := ns } } }

def straps0 : Straps := { bootEn := false, baud1 := false, baud0 := true }
def straps1 : Straps := { bootEn := true, baud1 := true, baud0 := true }
def linesHigh : Lines := { clock := true, data := true }
def dataLow : Lines := { clock := true, data := false }

/-! ### Witnesses: reset, link, system commands -/

theorem test_meets_StepTakesTheFront :
    State.reset.pending = []
    ∧ shows (step { ready with pending := [.timebaseTick, .ping] }) (fun t => t.pending == [Instr.ping]) = true := by
  decide +kernel

theorem test_meets_ResetHoldsThePart :
    (10 ≤ 10 ∧ shows (exec (.resetNLow 10) ready) (fun t => t.resetNLow) = true)
    ∧ (9 < 10 ∧ shows (exec (.resetNLow 9) ready) (fun t => !t.resetNLow) = true)
    ∧ (State.reset.operating = false ∧ Instr.gapExpiry ≠ .powerOnReset) := by decide +kernel

theorem test_meets_Starts :
    Starts State.reset straps0 linesHigh (.supplyValid straps0 linesHigh) false
    ∧ Starts { ready with resetNLow := true } straps1 dataLow (.resetNRelease straps1 dataLow) false
    ∧ Starts { ready with out := { ready.out with restart := .replyGone } } straps1 linesHigh
        (.restartEffect straps1 linesHigh) true
    ∧ straps0.bootEn = false ∧ straps1.bootEn = true ∧ linesHigh.bothHigh = true ∧ dataLow.bothHigh = false :=
  ⟨.supply rfl rfl, .release rfl rfl, .restart (by decide +kernel) rfl, rfl, rfl, rfl, rfl⟩

theorem test_start_with_boot_en :
    shows (exec (.supplyValid straps1 linesHigh) State.reset)
      (fun t => t.portState .a == .busy && (t.engine .a).activity == .formStart && t.replay.phase == .header) = true
    ∧ shows (exec (.supplyValid straps1 dataLow) State.reset) (fun t => t.portState .a == .recovering) = true
    ∧ shows (exec (.supplyValid straps0 dataLow) State.reset) (fun t => t.replay.system == .ready) = true := by
  decide +kernel

/-- R188, R146: the START_REPORT of a start without a script, and its frame on LTX. -/
theorem test_start_report_on_its_way :
    shows (exec (.supplyValid straps0 dataLow) State.reset) (fun t =>
      t.out.notices.counters.created == 1 && t.out.notices.nextNumber == 1
      && t.out.sending == some
        { source := .notice 0
          bytes := [0xC5, 0x0E, 0x03, 0, 0x04, 2, 0, 1, 0, 0, 1, 0, 0, 0, 0, 0, 0xAA, 0x31] }) = true := by
  decide +kernel

/-- R157: the rates of the four strap levels. -/
theorem test_rates :
    [straps0, straps1, { straps1 with baud0 := false }, State.reset.straps].map
      (fun st => ({ ready with straps := st } : State).linkRate) = [460800, 3000000, 1000000, 115200] := by decide

/-- R157, R167: LTX is high between frames; a character is a low start bit, its bits from the lowest, and a high stop bit. -/
theorem test_line :
    ready.ltx = [true] ∧ characterOfBits [true, false, true, false, false, false, true, true] = 0xC5
    ∧ ({ ready with out := { ready.out with sending := some { source := .reply, bytes := [0xC5, 4] } } } : State).ltx =
      [false, true, false, true, false, false, false, true, true, true]
        ++ [false, false, false, true, false, false, false, false, false, true] := by decide

/-- A link whose deframer is in this state, with this much of the gap interval to come. -/
def deframingFor (d : Deframer) (ticks : Nat) : State :=
  { ready with link := { ready.link with deframer := d, gapTimer := some ticks } }
def deframing (d : Deframer) : State := deframingFor d 1

/-- A character heard with its stop bit at this level, by a deframer in this state. -/
def heard (char : Byte) (stop : Bool) (d : Deframer) : StepOutcome :=
  exec (.receiveCharacter (dataBitsOf char) stop) (deframing d)

theorem test_meets_CharacterReceived :
    (deframing .length).quiet = true
    ∧ shows (heard 0xC5 true .hunt) (fun t => t.link.deframer == .length) = true
    ∧ shows (heard 3 true .length) (fun t => t.link.deframer == .body 3 []) = true
    ∧ shows (heard 250 true .length) (fun t => t.link.deframer == .body 250 []) = true
    ∧ shows (heard 2 true .length) (fun t => t.link.counters.badFrames == 1) = true
    ∧ shows (heard 251 true .length) (fun t => t.link.deframer == .hunt) = true
    ∧ shows (heard 9 true (.body 3 [1, 7])) (fun t => t.link.deframer == .crcLow [1, 7, 9]) = true
    ∧ shows (heard 9 true (.crcLow [1])) (fun t => t.link.deframer == .crcHigh [1] 9) = true
    ∧ shows (heard 8 true (.crcHigh [1] 9)) (fun t => t.link.received == [{ body := [1], crc := 0x0809 }]) = true
    ∧ shows (heard 8 false .length) (fun t => t.link.counters.badFrames == 1) = true := by
  decide +kernel

/-- A complete frame that awaits its checks, its CRC right. -/
def arrived (body : List Byte) : RxFrame := { body := body, crc := crc16 (BitVec.ofNat 8 body.length :: body) }
def receiving (s : State) (f : RxFrame) : State := { s with link := { s.link with received := [f] } }

theorem test_meets_FrameDiscarded :
    ((deframingFor .length 0).operating = true ∧ (deframingFor .length 0).link.gapTimer = some 0
      ∧ (deframingFor .length 0).link.deframer ≠ .hunt)
    ∧ (receiving ready (arrived [4, 7, 1, 0])).quiet = true
    ∧ crc16 (BitVec.ofNat 8 3 :: [1, 7, 1]) ≠ 0
    ∧ ({ body := [1, 7, 1], crc := 0 } : RxFrame).check = .crcError
    ∧ (arrived [4, 7, 1, 0]).check = .badFrame ∧ (arrived [2, 7, 1]).check = .badFrame := by decide +kernel

theorem test_discards :
    shows (exec .gapExpiry (deframingFor .length 0)) (fun t => t.link.counters.gapDiscards == 1) = true
    ∧ shows (exec .crcError (receiving ready { body := [1, 7, 1], crc := 0 })) (fun t => t.link.counters.crcErrors == 1)
      = true
    ∧ shows (exec .badFrame (receiving ready (arrived [4, 7, 1, 0]))) (fun t => t.link.counters.badFrames == 1) = true := by
  decide +kernel

/-- An inbox that is full. -/
def crowded (s : State) : State := { s with link := { s.link with inbox := List.replicate 4 (frameOf 1 []) } }
/-- The same part in MUTE. -/
def mute (s : State) : State := { s with out := { s.out with notices := { s.out.notices with muted := true } } }

theorem test_meets_CommandFrameOffered :
    (arrived [1, 7, 1]).check = .command
    ∧ shows (exec .commandFrame (receiving ready (arrived [1, 7, 1]))) (fun t => t.link.inbox.length == 1) = true
    ∧ shows (exec .commandFrame (receiving (crowded ready) (arrived [1, 7, 1])))
      (fun t => t.link.inbox.length == 4 && t.link.counters.inboxOverruns == 1) = true
    ∧ shows (exec .commandFrame (receiving (mute ready) (arrived [1, 7, 1]))) (fun t => !t.out.notices.muted) = true := by
  decide +kernel

/-- Two notices, the first an ALARM in the window whose timer has this many ticks to come. -/
def alarmedFor (ticks : Nat) : State :=
  holding [heldNotice 5 (.portFailed .c) true 4 (.running ticks), heldNotice 6 (.passDone 1 9) false 0 .none]
def alarmed : State := alarmedFor 1

theorem test_meets_NoticeAcknowledged :
    (arrived [4, 5, 0]).check = .noticeAck ∧ (receiving alarmed (arrived [4, 5, 0])).quiet = true
    ∧ (∃ n ∈ alarmed.out.notices.held, n.inWindow = true ∧ n.number = at1 (arrived [4, 5, 0]).body 1)
    ∧ ¬(∃ n ∈ alarmed.out.notices.held, n.inWindow = true ∧ n.number = at1 (arrived [4, 6, 0]).body 1) := by
  decide +kernel

theorem test_notice_ack :
    shows (exec .noticeAck (receiving alarmed (arrived [4, 5, 0])))
      (fun t => t.out.notices.counters.acknowledged == 1 && !t.out.notices.attnLow) = true
    ∧ shows (exec .noticeAck (receiving alarmed (arrived [4, 6, 0]))) (fun t => t.out.notices.counters.strayAcks == 1)
      = true
    ∧ shows (exec .noticeAck (receiving (mute alarmed) (arrived [4, 6, 0]))) (fun t => !t.out.notices.muted) = true := by
  decide +kernel

/-- In MUTE, a frame appended, a frame dropped, and an acknowledgement: each is counted, and MUTE ends. -/
theorem test_meets_AcceptedFrameEndsMute :
    (receiving (mute (crowded alarmed)) (arrived [1, 7, 1])).quiet = true
    ∧ shows (exec .commandFrame (receiving (mute ready) (arrived [1, 7, 1]))) (fun t =>
      t.link.counters.commandFrames == 1 && t.link.received.isEmpty
      && t.link.inbox == [(arrived [1, 7, 1]).command]) = true
    ∧ shows (exec .commandFrame (receiving (mute (crowded alarmed)) (arrived [1, 7, 1]))) (fun t =>
      t.link.counters.inboxOverruns == 1 && t.link.inbox.length == 4 && !t.out.notices.muted
      && t.out.notices.counters.created == 1) = true
    ∧ shows (exec .noticeAck (receiving (mute alarmed) (arrived [4, 5, 0]))) (fun t =>
      t.link.counters.acknowledgements == 1 && t.out.notices.held.length == 1 && !t.out.notices.muted) = true := by
  decide +kernel

/-- The interpreter's cache holds the reply to the frame of PING. -/
def cached : State :=
  { ready with
    interp := { cache := some { tag := 7, crc := 0xABCD, reply := { tag := 7, kind := 1, status := .ok, fields := [] } }
                executing := false } }

theorem test_meets_RepeatAndUnknownKind :
    ((offered cached 1 []).canTakeFrame = true ∧ (offered cached 1 []).isRepeat (frameOf 1 []) = true)
    ∧ (commandKindOf (frameOf 0x7F []).kind.toNat = none ∧ (offered ready 0x7F []).isRepeat (frameOf 0x7F []) = false)
    ∧ shows (exec .duplicateCommand (offered cached 1 [])) (fun t => t.link.counters.duplicates == 1) = true
    ∧ answers (exec .unknownKind (offered ready 0x7F [])) .unknownKind [] = true := by decide +kernel

/-- A reply placed while the reply to RESTART has gone, on an idle transmitter and on one that sends. -/
theorem test_meets_ReplyPlaced :
    let gone : Outbound := { ready.out with restart := .replyGone }
    let r : Reply := { tag := 7, kind := 1, status := .ok, fields := [] }
    (ready.out.sending = none ∧ ready.out.restart ≠ .replyGone ∧ (ready.out.placeReply r).reply = .sending r)
    ∧ (gone.sending = none ∧ gone.restart = .replyGone ∧ (gone.placeReply r).reply = .pending r)
    ∧ (gone.placeReply r).sending = none
    ∧ (({ ready.out with sending := some { source := .notice 1, bytes := [] }, takingNext := true } :
        Outbound).placeReply r).reply = .pending r := by decide +kernel

/-- R168, R190: a frame taken leaves the inbox and nothing else; the frame of the reply to PING. -/
theorem test_taken_and_framed :
    ((offered ready 1 []).takeOldest []).link.inbox = []
    ∧ ({ tag := 7, kind := 1, status := .ok, fields := [] } : Reply).frame = [0xC5, 4, 2, 7, 1, 0, 0xC3, 0xC3] := by
  decide +kernel

/-- The part while it starts up. -/
def startingUp (phase : ReplayPhase) : State :=
  { board with replay := { Replay.atReset with system := .starting, phase := phase } }

theorem test_meets_RefusedBeforeAnyOtherCheck :
    (commandKindOf (frameOf 0x40 []).kind.toNat = some .pcSet ∧ (startingUp .body).replay.system = .starting
      ∧ CommandKind.pcSet.admittedAtStart = false)
    ∧ answers (exec .pcSet (offered (startingUp .body) 0x40 [0, 1, 0, 0])) .busyStarting [] = true
    ∧ answers (exec .pcSet (offered ready 0x40 [0, 1, 0])) .badLength [] = true
    ∧ answers (exec .stats (offered (startingUp .body) 0x04 [0, 0])) .badLength [] = true
    ∧ commandKindOf 0x00 = none ∧ commandKindOf 0x07 = none ∧ commandKindOf 0x62 = none := by decide +kernel

theorem test_number_above :
    Takes (offered ready 0x37 [8]) .chGet (frameOf 0x37 [8]) []
    ∧ Takes (offered ready 0x11 [32]) .tgtGet (frameOf 0x11 [32]) []
    ∧ Takes (offered ready 0x43 [4]) .pcGet (frameOf 0x43 [4]) []
    ∧ Takes (offered ready 0x53 [0]) .ptGet (frameOf 0x53 [0]) []
    ∧ Takes (offered ready 0x53 [5]) .ptGet (frameOf 0x53 [5]) []
    ∧ answers (exec .ptGet (offered ready 0x53 [5])) .badValue [] = true :=
  ⟨takes_of_takesNow (by decide +kernel), takes_of_takesNow (by decide +kernel), takes_of_takesNow (by decide +kernel),
    takes_of_takesNow (by decide +kernel), takes_of_takesNow (by decide +kernel), by decide +kernel⟩

theorem test_meets_StatusCommands :
    Takes (offered (startingUp .header) 0x01 []) .ping (frameOf 0x01 []) []
    ∧ Takes (offered ready 0x02 []) .identify (frameOf 0x02 []) []
    ∧ Takes (offered ready 0x03 []) .status (frameOf 0x03 []) []
    ∧ answers (exec .identify (offered ready 0x02 [])) .ok identifyBytes = true
    ∧ answers (exec .status (offered ready 0x03 [])) .ok
      [1, 1, 1, 1, 1, 0, 0, 0, 0, 0, 0, 0, 0, 0, 0, 0, 0, 128] = true :=
  ⟨takes_of_takesNow (by decide +kernel), takes_of_takesNow (by decide +kernel), takes_of_takesNow (by decide +kernel),
    by decide +kernel, by decide +kernel⟩

theorem test_meets_StatsReadsAndClears :
    Takes (offered ready 0x04 []) .stats (frameOf 0x04 []) [] ∧ Takes (offered ready 0x04 [0]) .stats (frameOf 0x04 [0]) []
    ∧ Takes (offered ready 0x04 [1]) .stats (frameOf 0x04 [1]) []
    ∧ Takes (offered ready 0x04 [2]) .stats (frameOf 0x04 [2]) [] ∧ 1 < (2 : Byte).toNat
    ∧ answers (exec .stats (offered ready 0x04 [2])) .badValue [] = true :=
  ⟨takes_of_takesNow (by decide +kernel), takes_of_takesNow (by decide +kernel), takes_of_takesNow (by decide +kernel),
    takes_of_takesNow (by decide +kernel), by decide, by decide +kernel⟩

/-- R196: the 66 bytes of STATS, the last of the link counters, of the ports' and of the notice counters set. -/
theorem test_stats_bytes :
    let s := ready.setEngine .d { Engine.atReset with recoveries := 258 }
    let q := { s.out.notices with counters := { s.out.notices.counters with strayAcks := 0x01020304 } }
    let bytes := statsBytes
      { s with
        link := { s.link with counters := { s.link.counters with duplicates := 65535 } }
        out := { s.out with notices := q } }
    bytes.length = 66 ∧ (bytes.drop 12).take 2 = [0xFF, 0xFF] ∧ (bytes.drop 36).take 2 = [2, 1]
    ∧ bytes.drop 62 = [4, 3, 2, 1] := by decide +kernel

theorem test_meets_RestartExecuted :
    Takes (offered ready 0x05 []) .restart (frameOf 0x05 []) []
    ∧ shows (exec .restart (offered ready 0x05 [])) (fun t => t.out.restart == .executed && t.out.reply != .empty) = true
    ∧ ({ ready.out with restart := .executed } : Outbound).restart ≠ .none
    ∧ ({ ready with out := { ready.out with restart := .executed } } : State).quiet = true :=
  ⟨takes_of_takesNow (by decide +kernel), by decide +kernel, by decide, by decide +kernel⟩

theorem test_meets_AbortStartTaken :
    Takes (offered ready 0x06 []) .abortStart (frameOf 0x06 []) []
    ∧ (∀ ph ∈ [ReplayPhase.header, .body, .execute],
      takesNow (offered (startingUp ph) 0x06 []) .abortStart (frameOf 0x06 []) [] = true
      ∧ (startingUp ph).replay.abortRequested = false)
    ∧ answers (exec .abortStart (offered ready 0x06 [])) .wrongState [] = true
    ∧ shows (exec .abortStart (offered (startingUp .body) 0x06 []))
      (fun t => t.replay.abortRequested && (t.engine .a).abortRequests == [Owner.replay]) = true :=
  ⟨takes_of_takesNow (by decide +kernel), by decide +kernel, by decide +kernel, by decide +kernel⟩

/-! ### Witnesses: targets and staging memory -/

/-- The payload of a TGT_SET of monitor's definition in this slot. -/
def setMonitor (slot : Byte) : List Byte := slot :: monitor.defn.bytes

theorem test_meets_TargetSet :
    Takes (offered ready 0x10 (setMonitor 31)) .tgtSet (frameOf 0x10 (setMonitor 31)) []
    ∧ Takes (offered board 0x10 (setMonitor 1)) .tgtSet (frameOf 0x10 (setMonitor 1)) []
    ∧ definitionOf ((setMonitor 31).drop 1) = some monitor.defn
    ∧ definitionOf (List.replicate 14 0) = none
    ∧ answers (exec .tgtSet (offered board 0x10 (setMonitor 1))) .duplicate [] = true
    ∧ shows (exec .tgtSet (offered ready 0x10 (setMonitor 31))) (fun t => (t.slot 31).target == some monitor) = true :=
  ⟨takes_of_takesNow (by decide +kernel), takes_of_takesNow (by decide +kernel), by decide +kernel, by decide +kernel,
    by decide +kernel, by decide +kernel⟩

/-- R34, R194: the defaults, the greatest extent, an extent too large, a cycle limit of a REGISTER target. -/
theorem test_definitions :
    definitionOf [1, 0x20, 2, 1, 16, 0, 0, 0, 0, 1, 0, 0, 1, 0] = some { monitor.defn with stretchLimit := 10 }
    ∧ definitionOf [2, 0x77, 1, 2, 0, 0, 1, 0, 1, 2, 50, 0, 3, 15] =
      some { port := .b, address := 0x77, kind := .memory, offsetWidth := 2, extent := 65536, pageSize := 256
             speed := .khz400, stretchLimit := 50, cycleLimit := 10, retries := 3, fenceThreshold := 15 }
    ∧ definitionOf [2, 0x77, 1, 2, 1, 0, 1, 0, 1, 2, 50, 0, 3, 15] = none
    ∧ definitionOf [1, 0x20, 2, 1, 16, 0, 0, 0, 0, 1, 0, 1, 1, 0] = none
    ∧ store.defn.valid = true ∧ definitionOf store.defn.bytes = some store.defn := by decide +kernel

/-- board with slot 0 in flight. -/
def marked : State := board.setSlot 0 { target := some monitor, inFlight := true }

theorem test_meets_TargetRemovedFencedUnfenced :
    (takesNow (offered marked 0x12 [0]) .tgtRemove (frameOf 0x12 [0]) [] = true ∧ (marked.slot 0).inFlight = true)
    ∧ (takesNow (offered board 0x12 [1]) .tgtRemove (frameOf 0x12 [1]) [] = true ∧ (board.slot 1).target = none)
    ∧ (takesNow (offered board 0x12 [31]) .tgtRemove (frameOf 0x12 [31]) [] = true ∧ (board.slot 31).inFlight = false)
    ∧ (takesNow (offered board 0x13 [0]) .tgtFence (frameOf 0x13 [0]) [] = true ∧ monitor.standing ≠ .fenced)
    ∧ (takesNow (offered board 0x14 [31]) .tgtUnfence (frameOf 0x14 [31]) [] = true ∧ store.standing ≠ .online) := by
  decide +kernel

theorem test_target_commands :
    answers (exec .tgtRemove (offered marked 0x12 [0])) .busy [] = true
    ∧ shows (exec .tgtRemove (offered board 0x12 [31])) (fun t => (t.slot 31).target == none && t.slotNews == [31]) = true
    ∧ shows (exec .tgtFence (offered board 0x13 [0])) (fun t => (t.slot 0).state == .fenced) = true
    ∧ answers (exec .tgtFence (offered board 0x13 [1])) .noTarget [] = true
    ∧ shows (exec .tgtUnfence (offered board 0x14 [31])) (fun t => (t.slot 31).state == .online) = true
    ∧ answers (exec .tgtUnfence (offered board 0x14 [0])) .ok [] = true := by decide +kernel

theorem test_meets_QueriesAnswered :
    takesNow (offered board 0x11 [31]) .tgtGet (frameOf 0x11 [31]) [] = true
    ∧ takesNow (offered (withChannel7 looped) 0x37 [7]) .chGet (frameOf 0x37 [7]) [] = true
    ∧ (takesNow (offered (withChannel7 looped) 0x37 [7, 1]) .chGet (frameOf 0x37 [7, 1]) [] = true
      ∧ looped.ring[1]? = some (.pause 20))
    ∧ (takesNow (offered (withChannel7 looped) 0x37 [7, 2]) .chGet (frameOf 0x37 [7, 2]) [] = true
      ∧ looped.ring.length ≤ 2)
    ∧ takesNow (offered board 0x43 [3]) .pcGet (frameOf 0x43 [3]) [] = true
    ∧ takesNow (offered board 0x53 [4]) .ptGet (frameOf 0x53 [4]) [] = true := by decide +kernel

theorem test_queries :
    answers (exec .chGet (offered (withChannel7 looped) 0x37 [7, 2])) .badValue [] = true
    ∧ answers (exec .pcGet (offered board 0x43 [3])) .ok [0, 0xE8, 0x03, 0, 0, 0, 0, 0, 0, 0] = true
    ∧ answers (exec .ptGet (offered board 0x53 [4])) .ok [1, 0, 0, 0, 0, 0, 0, 0, 0] = true
    ∧ shows (exec .tgtGet (offered board 0x11 [31])) (fun t => t.staging == []) = true := by decide +kernel

/-- R194, R192, R196: a VACANT slot, a SUSPECT one, the records, a channel's flags byte. -/
theorem test_reply_fields :
    slotBytes { target := none, inFlight := false } = List.replicate 17 0
    ∧ slotBytes { target := some store, inFlight := true } =
      [2, 2, 0x50, 1, 2, 0, 0x80, 0, 64, 0, 2, 10, 10, 2, 3, 2, 1]
    ∧ recordBytes none = [0xFF, 0, 0, 0]
    ∧ recordBytes (some { result := .aborted, moved := 256, attempts := 4 }) = [11, 0, 1, 4]
    ∧ (channelBytes (withChannel7 { looped with head := .pausing, heldPassEnd := true }) 7)[10]? = some 3
    ∧ (withChannel7 { looped with pacer := some 3 }).boundChannels 3 = 128
    ∧ ({ Engine.atReset with portState := .busy, activity := .stretchStop } : Engine).phase = .stop := by decide +kernel

/-- The payload of a MEM_WRITE of one byte at an offset. -/
def oneByteAt (offset : Nat) : List Byte := bytes2 offset ++ [1, 0x5A]

/-- board while port B reads the last 200 bytes of staging memory, and port A writes the first 8. -/
def occupied : State :=
  { board with
    busy := { a := some { first := 0, length := 8, direction := .writes }, b := some writeLast.busyRange, c := none
              d := none } }

theorem test_meets_MemoryWritten :
    (takesNow (offered board 0x20 [0, 0, 2, 1]) .memWrite (frameOf 0x20 [0, 0, 2, 1]) [] = true
      ∧ answers (exec .memWrite (offered board 0x20 [0, 0, 2, 1])) .badLength [] = true)
    ∧ answers (exec .memWrite (offered board 0x20 (oneByteAt 8192))) .badValue [] = true
    ∧ answers (exec .memWrite (offered occupied 0x20 (oneByteAt 8191))) .busyRange [] = true
    ∧ (takesNow (offered board 0x20 (oneByteAt 8191)) .memWrite (frameOf 0x20 (oneByteAt 8191)) [] = true
      ∧ board.staging.wf = true
      ∧ shows (exec .memWrite (offered board 0x20 (oneByteAt 8191))) (fun t => t.staging == [(8191, 0x5A)]) = true) := by
  decide +kernel

theorem test_meets_MemoryRead :
    (takesNow (offered occupied 0x21 [0xFF, 0x1F, 1]) .memRead (frameOf 0x21 [0xFF, 0x1F, 1]) [] = true
      ∧ answers (exec .memRead (offered occupied 0x21 [0xFF, 0x1F, 1])) .ok [0] = true)
    ∧ answers (exec .memRead (offered occupied 0x21 [7, 0, 1])) .busyRange [] = true
    ∧ answers (exec .memRead (offered board 0x21 [0, 0, 241])) .badLength [] = true
    ∧ answers (exec .memRead (offered board 0x21 [0xFF, 0x1F, 2])) .badValue [] = true := by decide +kernel

/-! ### Witnesses: channels -/

/-- The payload of a CH_LOAD of one PAUSE of 20 ms into channel 7. -/
def loadPause (first : Byte) : List Byte := [7, first, 1, 4, 0, 0x14, 0, 0, 0, 0, 0]

theorem test_meets_ChannelConfigured :
    (takesNow (offered (withChannel7 { looped with state := .paced }) 0x32 [7]) .chClear (frameOf 0x32 [7]) [] = true
      ∧ answers (exec .chClear (offered (withChannel7 { looped with state := .paced }) 0x32 [7])) .wrongState [] = true)
    ∧ answers (exec .chStart (offered board 0x33 [7])) .wrongState [] = true
    ∧ (takesNow (offered board 0x30 [7, 3, 1, 0xFF, 1, 15]) .chConfig (frameOf 0x30 [7, 3, 1, 0xFF, 1, 15]) [] = true
      ∧ (board.channel 7).state = .off ∧ priorityOf 3 = some .urgent ∧ pacerSettingOf 0xFF = some none
      ∧ (wantsOf 15).isSome = true ∧ wantsOf 16 = none)
    ∧ shows (exec .chConfig (offered board 0x30 [7, 3, 1, 0xFF, 1, 15])) (fun t => (t.channel 7).priority == .urgent)
      = true := by decide +kernel

theorem test_settings_outside_their_sets :
    priorityOf 4 = none ∧ channelModeOf 2 = none ∧ pacerSettingOf 4 = none ∧ pacerSettingOf 0xFE = none
    ∧ failurePolicyOf 2 = none ∧ pacerModeOf 2 = none := by decide

/-- R6, R193: descriptors at the edges of the checks, and two of them one after another. -/
theorem test_descriptors_at_the_edges :
    descriptorOf (Descriptor.transfer { readLast with offset := 65535, length := 256, position := 7936 }).bytes =
      some (.transfer { readLast with offset := 65535, length := 256, position := 7936 })
    ∧ descriptorOf [1, 0, 0, 0, 0, 1, 1, 0x1F] = none ∧ descriptorOf [1, 0, 0, 0, 1, 1, 0, 0] = none
    ∧ descriptorOf [3, 0, 0, 0, 17, 0, 0, 0x20] = none ∧ descriptorOf [3, 0, 0, 0, 1, 0, 0, 0] = none
    ∧ descriptorOf [1, 32, 0, 0, 1, 0, 0, 0] = none ∧ descriptorOf [5, 0, 1, 0, 1, 0, 0, 0] = none
    ∧ descriptorsOf 2 ([Descriptor.transfer watchLast, .pause 65535].flatMap Descriptor.bytes) =
      some [.transfer watchLast, .pause 65535] := by decide +kernel

theorem test_meets_RingLoadedAndCleared :
    (takesNow (offered (withChannel7 looped) 0x31 (loadPause 0)) .chLoad (frameOf 0x31 (loadPause 0)) [] = true
      ∧ descriptorsOf 1 ((loadPause 0).drop 3) = some [.pause 20] ∧ flagOf 2 = none)
    ∧ shows (exec .chLoad (offered (withChannel7 looped) 0x31 (loadPause 0)))
      (fun t => (t.channel 7).ring.length == 3 && t.poolFree == 127) = true
    ∧ shows (exec .chLoad (offered (withChannel7 looped) 0x31 (loadPause 1)))
      (fun t => (t.channel 7).ring == [.pause 20] && t.poolFree == 129) = true
    ∧ answers (exec .chLoad (offered { board with poolFree := 0 } 0x31 (loadPause 0))) .noRoom [] = true
    ∧ shows (exec .chClear (offered (withChannel7 looped) 0x32 [7])) (fun t => (t.channel 7).ring == []) = true := by
  decide +kernel

theorem test_meets_ChannelStarted :
    (takesNow (offered (withChannel7 looped) 0x33 [7]) .chStart (frameOf 0x33 [7]) [] = true ∧ looped.ring ≠ []
      ∧ looped.pacer = none)
    ∧ shows (exec .chStart (offered (withChannel7 looped) 0x33 [7]))
      (fun t => (t.channel 7).head == .candidate .a && (t.arbiter .a).occasion) = true
    ∧ shows (exec .chStart (offered (withChannel7 { looped with pacer := some 3 }) 0x33 [7]))
      (fun t => (t.channel 7).state == .paced) = true := by decide +kernel

/-- The part with channel 7 at a head. -/
def headAt (d : Descriptor) : State := withChannel7 { looped with ring := [d], state := .running }

theorem test_meets_HeadServed :
    ((headAt (.pause 65535)).channel 7).ring[((headAt (.pause 65535)).channel 7).position]? = some (.pause 65535)
    ∧ (((headAt (.pause 65535)).serveHead false 7).channel 7).pauseTimer = some 65536
    ∧ (((headAt (.transfer { readLast with slot := 1 })).serveHead false 7).channel 7).lastResult =
      some { result := .targetVacant, moved := 0, attempts := 0 }
    ∧ (((headAt (.transfer { readLast with offset := 5 })).serveHead false 7).channel 7).haltReason = some .failure
    ∧ (((headAt (.transfer readLast)).serveHead false 7).channel 7).head = .candidate .a
    ∧ ((((headAt (.transfer readLast)).setEngine .a { Engine.atReset with portState := .disabled }).serveHead false
        7).channel 7).head = .waiting := by decide +kernel

/-- A head that fails at once under SKIP: the failure is counted and reported, and the next head is served. -/
theorem test_head_skipped :
    let s := withChannel7
      { looped with ring := [.transfer { readLast with slot := 1 }, .pause 20], policy := .skip, state := .running }
    ((s.serveHead false 7).channel 7).head = .pausing ∧ ((s.serveHead false 7).channel 7).failureCount = 1
    ∧ (s.serveHead false 7).out.notices.held.map (·.kind) = [.descFailed 7 0 .targetVacant 1 0] := by decide +kernel

/-- R15, R57: a head becomes a CANDIDATE at a port that is not IDLE without an occasion, and one that is there already stays. -/
theorem test_head_offered :
    let busyPort := (headAt (.transfer readLast)).setEngine .a { Engine.atReset with portState := .recovering }
    ((busyPort.serveHead false 7).channel 7).head = .candidate .a ∧ ((busyPort.serveHead false 7).arbiter .a).occasion = false
    ∧ (headAt (.transfer readLast)).serveHead true 7 =
      { (headAt (.transfer readLast)).setChannel 7
          { looped with ring := [.transfer readLast], state := .running, head := .candidate .a } with
        arbiters := (headAt (.transfer readLast)).arbiters.set .a { grant := none, occasion := true } }
    ∧ ((headAt (.transfer readLast)).serveHead false 7).serveHead false 7 = (headAt (.transfer readLast)).serveHead false 7
    ∧ (withChannel7 { looped with position := 2 }).serveHead false 7 = withChannel7 { looped with position := 2 } := by
  decide +kernel

/-- Channel 7 RUNNING with its head in flight on port A. -/
def inFlight7 : State := withChannel7 { looped with state := .running, head := .onPort .a }

theorem test_meets_ChannelStoppedAndAborted :
    (takesNow (offered board 0x34 [7]) .chStop (frameOf 0x34 [7]) [] = true ∧ (board.channel 7).head = .none)
    ∧ answers (exec .chStop (offered (withChannel7 { looped with state := .paced }) 0x34 [7])) .ok [0] = true
    ∧ answers (exec .chAbort (offered (withChannel7 { looped with state := .running, head := .pausing }) 0x35 [7])) .ok [0]
      = true
    ∧ answers (exec .chStop (offered inFlight7 0x34 [7])) .ok [4] = true
    ∧ shows (exec .chAbort (offered inFlight7 0x35 [7])) (fun t => (t.engine .a).abortRequests == [Owner.channel 7])
      = true := by decide +kernel

/-- Channel 7 HALTED for this reason. -/
def halted7 (reason : HaltReason) (heldEnd : Bool) : State :=
  withChannel7 { looped with state := .halted, haltReason := some reason, heldPassEnd := heldEnd }

theorem test_meets_ChannelResumed :
    takesNow (offered (halted7 .failure false) 0x36 [7, 0]) .chResume (frameOf 0x36 [7, 0]) [] = true
    ∧ answers (exec .chResume (offered (halted7 .failure false) 0x36 [7, 2])) .badValue [] = true
    ∧ answers (exec .chResume (offered board 0x36 [7, 1])) .wrongState [] = true
    ∧ shows (exec .chResume (offered (halted7 .failure false) 0x36 [7, 0]))
      (fun t => (t.channel 7).head == .candidate .a) = true
    ∧ shows (exec .chResume (offered (halted7 .failure false) 0x36 [7, 1]))
      (fun t => (t.channel 7).head == .pausing && (t.channel 7).position == 1) = true
    ∧ shows (exec .chResume (offered (halted7 .watchHold true) 0x36 [7, 0])) (fun t => (t.channel 7).passGap == some 1)
      = true
    ∧ shows (exec .chResume (offered (halted7 .watchHold false) 0x36 [7, 1])) (fun t => (t.channel 7).state == .running)
      = true := by decide +kernel

/-- Channel 7 at the end of a pause, and at the end of a pass gap. -/
def pauseOver : State :=
  withChannel7 { looped with state := .running, head := .pausing, position := 1, doneInPass := 1, pauseTimer := some 0 }
def gapOver : State := withChannel7 { looped with state := .running, passGap := some 0 }

theorem test_meets_ChannelIntervalsEnd :
    ((pauseOver.channel 7).state = .running ∧ (pauseOver.channel 7).head = .pausing
      ∧ (pauseOver.channel 7).pauseTimer = some 0)
    ∧ ((gapOver.channel 7).head = .none ∧ (gapOver.channel 7).passGap = some 0)
    ∧ shows (exec (.pauseExpiry 7) pauseOver) (fun t => (t.channel 7).passCount == 1 && (t.channel 7).passGap == some 1)
      = true
    ∧ shows (exec (.passGapEnd 7) gapOver) (fun t => (t.channel 7).head == .candidate .a) = true := by decide +kernel

theorem test_meets_HeadFinished :
    ((inFlight7.channel 7).position + 1 < (inFlight7.channel 7).ring.length
      ∧ ((inFlight7.finishAndGoOn false 7).channel 7).head = .pausing)
    ∧ ((pauseOver.channel 7).ring.length ≤ (pauseOver.channel 7).position + 1 ∧ (pauseOver.channel 7).pacer = none
      ∧ (pauseOver.channel 7).mode = .circular) := by decide +kernel

/-- A record that has reached channel 7, and a ticket that one has reached. -/
def recordOf (r : Result) : Record := { result := r, moved := 0, attempts := 1 }
def reached (st : ChannelState) (r : Result) : State :=
  withChannel7
    { looped with state := st, head := .onPort .a, arriving := some { record := recordOf r, outcome := none } }
def ticketAt (st : TicketState) (r : Option Record) : Ticket :=
  { number := 255, transfer := writeLast, state := st, arrived := r }

theorem test_meets_CompletionsTaken :
    ((reached .running .done).channel 7).arriving = some { record := recordOf .done, outcome := none }
    ∧ shows (exec (.channelCompletion 7) (reached .running .done)) (fun t => (t.channel 7).head == .pausing) = true
    ∧ shows (exec (.channelCompletion 7) (reached .running .addrNak))
      (fun t => (t.channel 7).state == .halted && (t.channel 7).failureCount == 1) = true
    ∧ shows (exec (.channelCompletion 7) (reached .stopping .aborted))
      (fun t => (t.channel 7).state == .off && (t.channel 7).failureCount == 0) = true
    ∧ shows (exec (.ticketCompletion 255) { board with tickets := [ticketAt .inFlight (some (recordOf .done))] })
      (fun t => t.tickets == [] && t.out.notices.held.length == 1) = true := by decide +kernel

/-- Channel 7 at a holding WATCH whose record is a hit. -/
def hitHeld : State :=
  withChannel7
    { looped with
      ring := [.transfer watchLast], state := .running, head := .onPort .a
      arriving := some { record := recordOf .done, outcome := some .hit } }

theorem test_watch_hold :
    (hitHeld.channel 7).headHolds = true
    ∧ shows (exec (.channelCompletion 7) hitHeld)
      (fun t => (t.channel 7).haltReason == some .watchHold && (t.channel 7).heldPassEnd) = true := by decide +kernel

/-! ### Witnesses: pacers, ports, tickets, start-up -/

/-- Pacer 3 running with this much time; expiring: a tick has brought it to its end. -/
def pacerAt (mode : PacerMode) (remaining : Nat) (expiring : Bool) : Pacer :=
  { running := true, period := 5, mode := mode, remaining := remaining, expiryCount := 0, expiring := expiring }
def pacing (mode : PacerMode) (remaining : Nat) (expiring : Bool := false) : State :=
  (withChannel7 { looped with pacer := some 3, state := .paced }).setPacer 3 (pacerAt mode remaining expiring)

theorem test_meets_PacerCommands :
    (takesNow (offered board 0x40 [3, 0xFF, 0xFF, 1]) .pcSet (frameOf 0x40 [3, 0xFF, 0xFF, 1]) [] = true
      ∧ (board.pacer 3).running = false ∧ pacerModeOf 1 = some .single)
    ∧ answers (exec .pcSet (offered board 0x40 [3, 0, 0, 1])) .badValue [] = true
    ∧ answers (exec .pcSet (offered board 0x40 [3, 1, 0, 2])) .badValue [] = true
    ∧ answers (exec .pcSet (offered (pacing .single 2) 0x40 [3, 1, 0, 1])) .wrongState [] = true
    ∧ shows (exec .pcStart (offered board 0x41 [3])) (fun t => (t.pacer 3).remaining == 1001) = true
    ∧ shows (exec .pcStop (offered (pacing .single 2) 0x42 [3])) (fun t => (t.pacer 3).remaining == 0) = true := by
  decide +kernel

theorem test_meets_TickCounted :
    (pacing .single 1).quiet = true
    ∧ shows (exec .timebaseTick (pacing .single 1)) (fun t => t.pacer 3 == pacerAt .single 1 true && t.isDue (.pacer 3)) = true
    ∧ shows (exec .timebaseTick (pacing .repeat_ 2)) (fun t => (t.pacer 3).remaining == 1 && t.quiet) = true
    ∧ ((onBus (atPoint readNow .beforeSegment)).quiet = true ∧ Activity.beforeSegment.clocks = true
      ∧ shows (exec (.timebaseTick [.a]) (onBus (atPoint readNow .beforeSegment)))
        (fun t => (t.engine .a).activity == .formStart && (t.engine .a).stretchTimer == some 5) = true)
    ∧ shows (exec (.timebaseTick [.a]) (onBus { atPoint readNow (.dataIn 0) with stretchTimer := some 1 }))
      (fun t => t.isDue (.stretch .a)) = true
    ∧ shows (exec (.timebaseTick [.b]) (onBus { atPoint readNow (.dataIn 0) with stretchTimer := some 1 }))
      (fun t => (t.engine .a).stretchTimer == none) = true := by decide +kernel

/-- R146: a tick counts a notice's timer that runs and no other. -/
theorem test_tick_of_notices :
    shows (exec (.timebaseTick []) (alarmedFor 2)) (fun t =>
      t.out.notices.held.map (·.timer) == [.running 1, .none] && t.quiet) = true
    ∧ shows (exec (.timebaseTick []) alarmed) (fun t => t.isDue (.retransmit 5)) = true := by decide +kernel

/-- A command that follows the tick finds the expiry taken: PC_STOP stops a pacer that has expired and its channel runs. -/
theorem test_expiry_before_the_next_event :
    let s := offered (pacing .repeat_ 1 true) 0x42 [3]
    s.operating = true ∧ s.quiet = false ∧ s.takeDue.quiet = true
    ∧ shows (exec .pcStop s)
      (fun t => !(t.pacer 3).running && (t.pacer 3).expiryCount == 1 && (t.channel 7).state == .running) = true
    ∧ ¬isResetCause .pcStop :=
  ⟨rfl, by decide +kernel, by decide +kernel, by decide +kernel, id⟩

theorem test_meets_PacerExpires :
    (((pacing .repeat_ 1 true).pacer 3).running = true ∧ ((pacing .repeat_ 1 true).pacer 3).expiring = true)
    ∧ shows (exec (.pacerExpiry 3) (pacing .repeat_ 1 true))
      (fun t => (t.pacer 3).remaining == 5 && (t.channel 7).state == .running) = true
    ∧ shows (exec (.pacerExpiry 3) (pacing .single 1 true)) (fun t => !(t.pacer 3).running) = true := by decide +kernel

/-- Port A in this state. -/
def portIn (st : PortState) : State := board.setEngine .a { Engine.atReset with portState := st }

theorem test_meets_PortCommands :
    takesNow (offered (portIn .disabled) 0x50 [1]) .ptEnable (frameOf 0x50 [1]) [] = true
    ∧ answers (exec .ptEnable (offered board 0x50 [1])) .wrongState [] = true
    ∧ answers (exec .ptDisable (offered (portIn .busy) 0x51 [1])) .busy [] = true
    ∧ shows (exec .ptDisable (offered (portIn .failed) 0x51 [1])) (fun t => t.portState .a == .disabled) = true
    ∧ answers (exec .ptReset (offered (portIn .disabled) 0x52 [1])) .wrongState [] = true
    ∧ answers (exec .ptReset (offered (portIn .idle) 0x52 [1])) .ok [3] = true
    ∧ shows (exec .ptReset (offered ((portIn .busy).setArbiter .a { grant := some (.channel 7), occasion := false }) 0x52
        [1])) (fun t => (t.engine .a).abortRequests == [Owner.channel 7] && (t.engine .a).ptResetRequested) = true := by
  decide +kernel

/-- What the port has announced is heard before a command changes its state: the head waiting at the FAILED port fails. -/
def failedNews : State :=
  { (withChannel7 { looped with state := .running, head := .waiting }).setEngine .a
      { Engine.atReset with portState := .failed } with
    portNews := { a := [.failed], b := [], c := [], d := [] } }
theorem test_port_heard :
    takesNow (offered failedNews 0x51 [1]) .ptDisable (frameOf 0x51 [1]) [] = true ∧ failedNews.portNews.get .a ≠ []
    ∧ shows (exec .ptDisable (offered failedNews 0x51 [1]))
      (fun t => t.portState .a == .disabled && t.portNews.a == [.disabled] && (t.channel 7).haltReason == some .failure)
      = true := by decide +kernel

/-- PT_RESET while a transaction waits for a recovery, and while a boot memory read, which has no grant, runs. -/
theorem test_reset_of_a_port_with_a_transaction :
    let s := (atRecovery { attempt := 1, pulses := 0, step := .clockWait } (some 1) (some readNow)).setArbiter .a
      { grant := some (.channel 7), occasion := false }
    takesNow (offered s 0x52 [1]) .ptReset (frameOf 0x52 [1]) [] = true
    ∧ shows (exec .ptReset (offered s 0x52 [1]))
      (fun t => (t.engine .a).abortRequested && (t.engine .a).ptResetRequested && (t.engine .a).abortRequests == []) = true
    ∧ (board.setEngine .a (atPoint headerRead .formStart)).portState .a = .busy
    ∧ ((board.setEngine .a (atPoint headerRead .formStart)).arbiter .a).grant = none := by decide +kernel

theorem test_meets_DirectQueueCommands :
    takesNow (offered board 0x60 (Descriptor.transfer writeLast).bytes) .xfer
      (frameOf 0x60 (Descriptor.transfer writeLast).bytes) [] = true
    ∧ xferTransferOf (Descriptor.transfer writeLast).bytes = some writeLast
    ∧ xferTransferOf (Descriptor.transfer watchLast).bytes = none
    ∧ shows (exec .xfer (offered board 0x60 (Descriptor.transfer writeLast).bytes))
      (fun t => t.tickets == [{ number := 0, transfer := writeLast, state := .candidate .b, arrived := none }]) = true
    ∧ answers (exec .xferCancel (offered board 0x61 [255])) .badValue [] = true
    ∧ answers (exec .xferCancel (offered { board with tickets := [ticketAt .inFlight none] } 0x61 [255])) .busy [] = true
    ∧ shows (exec .xferCancel (offered { board with tickets := [ticketAt .waiting none] } 0x61 [255]))
      (fun t => t.tickets == []) = true := by decide +kernel

/-- R65: an XFER of a WATCH without hold; a number that no ticket has is evaluated without effect. -/
theorem test_xfer_of_a_watch :
    let watch := { watchLast with op := .watch .onMatch false }
    xferTransferOf (Descriptor.transfer watch).bytes = some watch ∧ xferTransferOf (Descriptor.pause 1).bytes = none
    ∧ board.evaluateTicket 0 = board := by decide +kernel

/-- R64: the number after 254 is 255, and with 255 held the search wraps to 0. -/
theorem test_ticket_number_wraps :
    shows (exec .xfer (offered { board with tickets := [ticketAt .waiting none], nextTicket := 255 } 0x60
        (Descriptor.transfer writeLast).bytes))
      (fun t => t.tickets.map (·.number) == [255, 0] && t.nextTicket == 1) = true
    ∧ (255 + 1) % 256 = 0 := by decide +kernel

/-- R67: the outcomes of the evaluation of a QUEUED ticket. -/
def queued (t : Transfer) : State := { board with tickets := [{ ticketAt .waiting none with transfer := t }] }
theorem test_ticket_evaluated :
    ((queued { writeLast with slot := 1 }).evaluateTicket 255).out.notices.held.map (·.kind) =
      [.xferDone 255 .targetVacant 0]
    ∧ (((queued writeLast).setSlot 31 { target := some { store with standing := .fenced }, inFlight := false }).evaluateTicket
        255).out.notices.held.map (·.kind) = [.xferDone 255 .targetFenced 0]
    ∧ (((queued writeLast).setEngine .b { Engine.atReset with portState := .failed }).evaluateTicket
        255).out.notices.held.map (·.kind) = [.xferDone 255 .portFailed 0]
    ∧ ((queued { writeLast with offset := 32569 }).evaluateTicket 255).tickets = []
    ∧ (((queued writeLast).setEngine .b { Engine.atReset with portState := .disabled }).evaluateTicket 255).tickets =
      [ticketAt .waiting none]
    ∧ (((queued writeLast).evaluateTicket 255).tickets = [ticketAt (.candidate .b) none]
      ∧ (((queued writeLast).evaluateTicket 255).arbiter .b).occasion = true) := by decide +kernel

/-- The part in a phase of start-up, with this script buffer and the record of a boot memory read. -/
def booting (phase : ReplayPhase) (bytes : List Byte) (r : Option Record) : State :=
  { startingUp phase with
    replay := { (startingUp phase).replay with buffer := Memory.writeBytes [] 0 bytes, scriptLength := 5, record := r } }

/-- Header and body of the one-record script of section 12.8, its CRC field 0. -/
def script : List Byte := [0x4A, 0x51, 1, 0, 5, 0, 0, 0, 4, 1, 9, 0x41, 0]

theorem test_meets_BootReadsSettled :
    shows (exec (.headerReadDone linesHigh) (booting .header script (some (recordOf .done))))
      (fun t => t.replay.phase == .body && t.portState .a == .busy) = true
    ∧ shows (exec (.headerReadDone linesHigh) (booting .header script (some (recordOf .addrNak))))
      (fun t => t.replay.system == .ready) = true
    ∧ shows (exec (.headerReadDone linesHigh) (booting .header [] (some (recordOf .done))))
      (fun t => t.replay.system == .ready) = true
    ∧ shows (exec (.bodyPieceDone linesHigh) (booting .body script (some (recordOf .done))))
      (fun t => t.replay.system == .ready && t.replay.bytesRead == 5) = true := by decide +kernel

theorem test_meets_ScriptRecordRun :
    ((booting .execute script none).interp.executing = false ∧ (booting .execute script none).out.restart = .none)
    ∧ shows (exec .scriptRecord (booting .execute script none))
      (fun t => (t.pacer 0).running && t.replay.executed == 1 && t.replay.system == .ready) = true
    ∧ shows (exec .scriptRecord (booting .execute [] none)) (fun t => t.replay.executed == 0 && t.replay.system == .ready)
      = true := by decide +kernel

/-- R170: the settlement of records, and of the command frame with the same kind and payload. -/
theorem test_records_settled :
    (commandKindOf 0x7F = none ∧ (settleRecord 0x7F [] board).status = .unknownKind)
    ∧ (commandKindOf 0x41 = some .pcStart ∧ (settleRecord 0x41 [] board).status = .badLength)
    ∧ ((settleRecord 0x06 [] board).status = .wrongState ∧ (settleRecord 0x05 [] board).status = .wrongState)
    ∧ (takesNow (offered board 0x41 [3]) .pcStart (frameOf 0x41 [3]) [] = true
      ∧ ((settleRecord 0x41 [3] ((offered board 0x41 [3]).takeOldest [])).state.pacer 3).remaining = 1001
      ∧ shows (exec .pcStart (offered board 0x41 [3])) (fun t => (t.pacer 3).remaining == 1001) = true)
    ∧ (settleRecord 0x60 (Descriptor.transfer writeLast).bytes board).evaluate = some 0 := by decide +kernel

/-- A record of kind STATS: 3 bytes of class, index and kind. -/
theorem test_record_of_a_refused_kind :
    let s := booting .execute [0x4A, 0x51, 1, 0, 5, 0, 0, 0, 3, 1, 9, 0x04, 0] none
    s.quiet = true ∧ commandKindOf 0x04 = some .stats ∧ CommandKind.stats.bounds.1 = 0
    ∧ shows (exec .scriptRecord s) (fun t => t.out.notices.held.map (·.kind) == [.startReport .commandFailed 0 1 .wrongState])
      = true := by decide +kernel

/-! ### Witnesses: notices -/

theorem test_meets_ClaimSettled :
    ((holding [heldNotice 6 (.passDone 1 9) false 0 .none]).out.notices.settle (.passDone 1 10)).held =
      [{ number := 6, kind := .passDone 1 10, merges := 1, transmissions := 0, inWindow := false, timer := .none }]
    ∧ ((holding [heldNotice 0 (.passDone 1 9) true 1 .none]).out.notices.settle (.passDone 1 10)).held.map (·.number) =
      [0, 1]
    ∧ ((holding (List.replicate 24 (heldNotice 3 (.halfPass 1 9) false 0 .none))).out.notices.settle
        (.portFailed .a)).counters.discarded = 1
    ∧ ((holding (List.replicate 24 (heldNotice 3 (.halfPass 1 9) true 1 .none))).out.notices.settle
        (.portFailed .a)).held.length = 24 := by decide +kernel

/-- R142: a claim that is itself discarded changes the counters alone. R138: what merges, and what does not. R144: a block's claim
is followed by the choice of the idle transmitter. -/
theorem test_claims :
    (let q := (holding (List.replicate 24 (heldNotice 3 (.portFailed .c) false 0 .none))).out.notices
     q.settle (.inboxOverflow 1) = { q with counters := { q.counters with created := 1, discarded := 1 } })
    ∧ (NoticeKind.inboxOverflow 1).subject = (NoticeKind.inboxOverflow 2).subject
    ∧ (NoticeKind.halfPass 1 9).subject ≠ (NoticeKind.passDone 1 9).subject ∧ (NoticeKind.portFailed .a).subject = none
    ∧ (board.claim (.portFailed .c)).out.sending.map (·.source) = some (.notice 0)
    ∧ (board.claim (.portFailed .c)).out = (board.out.claim (.portFailed .c)) := by decide +kernel

/-- R137: numbers 255 and 0 are held, so the claim takes 1. -/
theorem test_notice_number_wraps :
    let q := { (holding [heldNotice 255 (.portFailed .a) true 1 .none, heldNotice 0 (.portFailed .b) true 1 .none]).out.notices
      with nextNumber := 255 }
    (q.settle (.portFailed .c)).held.map (·.number) = [255, 0, 1] ∧ (q.settle (.portFailed .c)).nextNumber = 2 := by
  decide +kernel

/-- A notice frame on the link. -/
def sendingNotice (n : Nat) (s : State) : State :=
  { s with out := { s.out with sending := some { source := .notice n, bytes := [] } } }
def sendingReply (s : State) (stage : RestartStage) : State :=
  { s with
    out := { s.out with
      restart := stage
      reply := .sending { tag := 7, kind := 1, status := .ok, fields := [] }
      sending := some { source := .reply, bytes := [] } } }

theorem test_meets_FrameEnds :
    (sendingReply board .none).out.sending = some { source := .reply, bytes := [] }
    ∧ shows (exec (.frameEnd false) (sendingReply board .executed)) (fun t => t.out.restart == .replyGone) = true
    ∧ shows (exec (.frameEnd true) (offered (sendingReply alarmed .none) 1 [])) (fun t => t.out.sending == none) = true
    ∧ shows (exec (.frameEnd false) (sendingReply alarmed .none)) (fun t => t.out.sending.isSome) = true
    ∧ shows (exec (.frameEnd false) (sendingNotice 5 (holding [heldNotice 5 (.portFailed .c) true 1 .none])))
      (fun t => t.out.notices.held == [heldNotice 5 (.portFailed .c) true 1 (.running 251)]) = true := by decide +kernel

/-- R168: with the taking first, the reply of CH_START is sent before the CHANNEL_HALTED that CH_START itself claims; with an
idle transmitter that waits for nothing the notice is chosen first (R169). -/
def haltsAtStart (waits : Bool) : State :=
  let s := offered (withChannel7 { Channel.atReset with ring := [.transfer { readLast with slot := 5 }] }) 0x33 [7]
  { s with out := { s.out with takingNext := waits } }
def sentFirst (s : State) : Option FrameSource := s.out.sending.map (·.source)
theorem test_reply_before_own_notice :
    shows (exec .chStart (haltsAtStart true)) (fun t => sentFirst t == some .reply && !t.out.takingNext) = true
    ∧ shows (exec .chStart (haltsAtStart false)) (fun t => sentFirst t == some (.notice 0)) = true
    ∧ shows (exec (.frameEnd true) (offered (sendingReply board .none) 1 [])) (fun t => t.out.takingNext) = true := by
  decide +kernel

theorem test_meets_TransmitterChooses :
    (alarmed.out.sending = none ∧ alarmed.out.restart ≠ .replyGone ∧ alarmed.out.takingNext = false
      ∧ alarmed.out.notices.muted = false)
    ∧ alarmed.out.choose.notices.held.map (·.inWindow) = [true, true]
    ∧ alarmed.out.choose.sending =
      some { source := .notice 6, bytes := (heldNotice 6 (.passDone 1 9) true 1 .none).frame 0 }
    ∧ ((holding [heldNotice 1 (.passDone 1 9) false 0 .none, heldNotice 2 (.portFailed .c) true 1 .due]).out.choose.notices
      |>.counters.retransmissions) = 1 := by decide +kernel

/-- The transmitter stays idle with 4 in WINDOW and none due, and with nothing ready. -/
theorem test_transmitter_idle :
    let full := (holding (heldNotice 9 (.passDone 1 9) false 0 .none
      :: (List.range 4).map (fun i => heldNotice i (.portFailed .c) true 1 (.running 9)))).out
    (4 ≤ windowCount full.notices.held ∧ full.choose = full)
    ∧ (holding [heldNotice 1 (.portFailed .c) true 1 (.running 9)]).out.choose.sending = none
    ∧ (mute alarmed).out.choose.sending = none := by decide +kernel

/-- R144, R176, R168: no choice while a frame is being sent, after the reply to RESTART, or before the interpreter's taking. -/
theorem test_transmitter_waits :
    let busy : Outbound := { alarmed.out with sending := some { source := .reply, bytes := [0xC5] } }
    busy.choose = busy
    ∧ ({ alarmed.out with restart := .replyGone } : Outbound).choose = { alarmed.out with restart := .replyGone }
    ∧ ({ alarmed.out with takingNext := true } : Outbound).choose = { alarmed.out with takingNext := true } := by
  decide +kernel

theorem test_meets_RetransmitTimerExpires :
    shows (exec (.retransmitTimerExpiry 5) (alarmedFor 0))
      (fun t => t.out.notices.muted && t.out.notices.counters.muteEntries == 1) = true
    ∧ shows (exec (.retransmitTimerExpiry 9) (holding [heldNotice 9 (.portFailed .c) true 3 (.running 0)]))
      (fun t => t.out.notices.held == [heldNotice 9 (.portFailed .c) true 4 .none]) = true := by decide +kernel

/-! ### Witnesses: accounting, announcements, grants -/

/-- The engine of port B has made a record of a transaction with store. -/
def madeBy (r : Result) : State :=
  { board with tickets := [ticketAt .inFlight none] }.setEngine .b
    { Engine.atReset with
      record := some { record := recordOf r, owner := .ticket 255, slot := 31, outcome := none } }

theorem test_meets_ResultAccounted :
    ((madeBy .done).engine .b).record = some { record := recordOf .done, owner := .ticket 255, slot := 31, outcome := none }
    ∧ store.defn.fenceThreshold ≤ store.count + 1 ∧ ¬(monitor.defn.fenceThreshold ≤ monitor.count + 1)
    ∧ shows (exec (.targetAccounting .b) (madeBy .done))
      (fun t => (t.slot 31).state == .online && t.tickets == [ticketAt .inFlight (some (recordOf .done))]) = true
    ∧ shows (exec (.targetAccounting .b) (madeBy .dataNak))
      (fun t => (t.slot 31).state == .fenced && t.slotNews == [31] && t.out.notices.attnLow) = true
    ∧ shows (exec (.targetAccounting .b) (madeBy .busConflict)) (fun t => (t.slot 31).target == some store) = true := by
  decide +kernel

/-- R62: the record handed on to a channel, to a ticket, to a number that no ticket has, and to the Start-up Replay Unit. -/
theorem test_delivered :
    let made := fun o : Owner => ({ record := recordOf .done, owner := o, slot := 31, outcome := some .hit } : MadeRecord)
    ((board.deliver (made (.channel 7))).channel 7).arriving = some { record := recordOf .done, outcome := some .hit }
    ∧ ({ board with tickets := [ticketAt .inFlight none] } : State).deliver (made (.ticket 255)) =
      { board with tickets := [ticketAt .inFlight (some (recordOf .done))] }
    ∧ board.deliver (made (.ticket 0)) = board ∧ board.deliver (made .replay) = board := by decide +kernel

/-- Slot 1 and port A have announced a change, and channel 7 waits for port A. -/
def announced : State :=
  { withChannel7 { looped with state := .running, head := .waiting } with
    slotNews := [0], portNews := { a := [.idle], b := [], c := [], d := [] } }

theorem test_meets_AnnouncementsTaken :
    0 ∈ announced.slotNews ∧ announced.portNews.get .a = [.idle]
    ∧ shows (exec (.slotAnnouncement 0 []) announced) (fun t => (t.channel 7).head == .candidate .a && t.slotNews == [])
      = true
    ∧ shows (exec (.portAnnouncement .a [.channel 7]) announced) (fun t => (t.channel 7).head == .candidate .a) = true
    ∧ reevaluateParty (fun _ => true) inFlight7 (.channel 7) = inFlight7
    ∧ (announced.quiet = true ∧ (announced.channel 7).headTransfer = some readLast
      ∧ ((reevaluateParty (fun t => t.slot == 0) announced (.channel 7)).channel 7).head = .candidate .a)
    ∧ (reevaluateParty (fun t => t.slot == 31) (queued writeLast) (.ticket 255)).tickets = [ticketAt (.candidate .b) none]
    ∧ reevaluateParty (fun _ => true) { board with tickets := [ticketAt .inFlight none] } (.ticket 255) =
      { board with tickets := [ticketAt .inFlight none] } := by decide +kernel

/-- A candidate head at port A and a candidate ticket at port B, both with an occasion. -/
def contending : State :=
  (({ withChannel7 { looped with state := .running, head := .candidate .a } with
      tickets := [ticketAt (.candidate .b) none] } : State).raiseOccasion .a).raiseOccasion .b

theorem test_meets_PortGranted :
    (contending.quiet = true ∧ contending.occasionReady .a = true ∧ contending.occasionReady .b = true
      ∧ contending.portState .a = .idle ∧ contending.tickets = [] ++ ticketAt (.candidate .b) none :: []
      ∧ contending.busyList = [] ∧ (contending.channel 7).headTransfer = some readLast)
    ∧ shows (exec (.grantOccasion .b linesHigh) contending)
      (fun t => t.portState .b == .busy && t.tickets == [ticketAt .inFlight none]
        && t.busy.b == some { first := 7992, length := 200, direction := .reads }) = true
    ∧ shows (exec (.grantOccasion .a dataLow) contending)
      (fun t => t.portState .a == .recovering && (t.channel 7).head == .onPort .a && (t.slot 0).inFlight) = true
    ∧ shows (exec (.grantOccasion .b linesHigh)
        { contending with
          busy := { a := some { first := 8191, length := 1, direction := .writes }, b := none, c := none, d := none } })
      (fun t => t.portState .b == .idle && !(t.arbiter .b).occasion) = true := by decide +kernel

/-- R80, R81, R85: a port that takes a transaction with both lines high, and with a line low. -/
theorem test_transaction_begins :
    let old := board.setEngine .b { Engine.atReset with confirmed := 5, scratch := [1], abortRequests := [.replay] }
    let first : Segment := { first := 32568, length := 8, place := 1 }
    (old.beginTransaction .b writeNow linesHigh).engine .b =
      { Engine.atReset with
        portState := .busy, activity := .formStart, transaction := some writeNow, attempts := 1, segment := some first }
    ∧ (old.beginTransaction .b writeNow linesHigh).portNews.b = [.busy]
    ∧ (old.beginTransaction .b writeNow dataLow).engine .b =
      { Engine.atReset with
        portState := .recovering, transaction := some writeNow, waitTimer := some 2
        recovery := some { attempt := 1, pulses := 0, step := .clockWait } }
    ∧ (old.beginTransaction .b writeNow dataLow).portNews.b = [.busy, .recovering]
    ∧ ((old.beginTransaction .b readNow linesHigh).engine .b).segment = none := by decide +kernel

/-! ### Witnesses: the bus -/

theorem test_meets_ByteClocked :
    ((onBus (atPoint readNow (.address false false))).portState .a = .busy
      ∧ (onBus (atPoint readNow (.address false false))).quiet = true
      ∧ ((onBus (atPoint readNow (.address false false))).engine .a).transaction = some readNow)
    ∧ shows (exec (.byteComplete .a (bitsOf 0) true) (onBus (atPoint readNow (.address false false))))
      (fun t => (t.engine .a).activity == .offset 0) = true
    ∧ shows (exec (.byteComplete .a (bitsOf 0) false) (onBus (atPoint readNow (.address true true))))
      (fun t => (t.engine .a).activity == .formStop (.nak .dataNak)) = true
    ∧ shows (exec (.byteComplete .a (bitsOf 0) true) (onBus (atPoint readNow (.offset 0))))
      (fun t => (t.engine .a).activity == .formRestart) = true
    ∧ shows (exec (.byteComplete .a (bitsOf 0x5A) false) (onBus (atPoint readNow (.dataIn 11))))
      (fun t => t.staging == [(8191, 0x5A)] && (t.engine .a).activity == .formStop .final) = true
    ∧ shows (exec (.byteComplete .a (bitsOf 0x5A) false) (onBus { atPoint watchNow (.dataIn 0) with abortRequested := true }))
      (fun t => t.staging == [] && (t.engine .a).activity == .dataInExtra) = true
    ∧ shows (exec (.byteComplete .a (bitsOf 0x5A) false) (onBus (atPoint readNow .dataInExtra)))
      (fun t => t.staging == [] && (t.engine .a).activity == .formStop .aborted) = true := by decide +kernel

/-- The engine at a byte of the last segment of writeNow. -/
def lastSegment (a : Activity) : Engine :=
  { atPoint writeNow a with segment := some { first := 32704, length := 64, place := 4 }, confirmed := 136 }

theorem test_meets_data_out :
    ((lastSegment (.dataOut 63)).sourcePosition writeNow 63 = 8191 ∧ (lastSegment .poll).dataOutLength writeNow = 64)
    ∧ shows (exec (.byteComplete .a (bitsOf 0) true) (onBus (lastSegment (.dataOut 63))))
      (fun t => (t.engine .a).activity == .formStop .segment && (t.engine .a).moved == 1) = true
    ∧ exec (.byteComplete .a (bitsOf 0) true) (onBus (lastSegment (.dataOut 64))) = .fault (.stagingOutOfRange .a)
    ∧ (onBus (lastSegment (.offset 0))).byteSent .a = some 0x7F
    ∧ (onBus (atPoint readNow (.address true true))).byteSent .a = some 0x41
    ∧ (onBus (atPoint readNow (.dataIn 11))).ackDriven .a = some false :=
  ⟨by decide +kernel, by decide +kernel, rfl, by decide +kernel, by decide +kernel, by decide +kernel⟩

/-- R76, R77: what is on the bus, level after level, and a byte's bits. -/
theorem test_meets_BytesOnTheBus :
    ((onBus (lastSegment .poll)).byteSent .a = some 0xA0 ∧ (onBus (lastSegment .poll)).portState .a = .busy
      ∧ (onBus (lastSegment .poll)).clockRate .a = some .khz400)
    ∧ bitsOf 0xA5 = [true, false, true, false, false, true, false, true] ∧ byteOfBits (bitsOf 0xA5) = 0xA5
    ∧ (onBus (atPoint readNow .formStart)).signal .a =
      [{ clock := true, data := true }, { clock := true, data := false }]
    ∧ ((onBus (lastSegment .poll)).signal .a).length = 21
    ∧ ((onBus (atPoint readNow (.dataIn 11))).signal .a).drop 16 =
      [{ clock := false, data := true }, { clock := true, data := true }]
    ∧ (atRecovery { attempt := 1, pulses := 0, step := .pulse } none none).signal .a =
      [{ clock := false, data := true }, { clock := true, data := true }]
    ∧ (onBus (atPoint readNow .formRestart)).signal .b = [{ clock := true, data := true }] := by decide +kernel

theorem test_meets_ConditionFormed :
    (onBus (atPoint readNow .formStart)).quiet = true
    ∧ shows (exec (.busConditionFormed .a linesHigh) (onBus (lastSegment .pollStart)))
      (fun t => (t.engine .a).activity == .poll) = true
    ∧ shows (exec (.busConditionFormed .a linesHigh) (onBus (atPoint readNow .formStart)))
      (fun t => (t.engine .a).activity == .address false false) = true
    ∧ shows (exec (.busConditionFormed .a linesHigh) (onBus (atPoint readNow (.formStop .final))))
      (fun t => t.portState .a == .idle && (t.engine .a).transactions == 1) = true
    ∧ shows (exec (.busConditionFormed .a linesHigh) (onBus (atPoint readNow (.formStop (.nak .addrNak)))))
      (fun t => (t.engine .a).activity == .retryGap && (t.engine .a).waitTimer == some 2) = true
    ∧ shows (exec (.busConditionFormed .a linesHigh)
        (onBus { atPoint readNow (.formStop (.nak .addrNak)) with attempts := 2 }))
      (fun t => (t.engine .a).failures == 1) = true
    ∧ shows (exec (.busConditionFormed .a linesHigh) (onBus (lastSegment (.formStop .segment))))
      (fun t => (t.engine .a).cycleTimer == some 11) = true
    ∧ shows (exec (.busConditionFormed .a dataLow) (onBus (atPoint readNow .stretchStop)))
      (fun t => t.portState .a == .recovering) = true
    ∧ (watchLast.position + 3 * watchLast.length = 8192
      ∧ shows (exec (.busConditionFormed .a linesHigh) (onBus (atPoint watchNow (.formStop .final))))
        (fun t => t.out.notices.held == []) = true) := by decide +kernel

theorem test_meets_PollsSettled :
    (onBus (lastSegment .poll)).quiet = true
    ∧ shows (exec (.cyclePollAnswer .a true) (onBus (lastSegment .poll))) (fun t => t.portState .a == .idle) = true
    ∧ shows (exec (.cyclePollAnswer .a true) (onBus { lastSegment .poll with confirmed := 8 }))
      (fun t => (t.engine .a).activity == .beforeSegment && (t.engine .a).confirmed == 72) = true
    ∧ shows (exec (.cyclePollAnswer .a false) (onBus (lastSegment .poll)))
      (fun t => (t.engine .a).activity == .betweenPolls) = true
    ∧ shows (exec (.cyclePollAnswer .a false) (onBus { lastSegment .poll with cycleExpired := true }))
      (fun t => (t.engine .a).failures == 1) = true := by decide +kernel

/-- The cycle limit runs out between two polls, while the START of a poll is formed, and during a poll. -/
theorem test_cycle_limit :
    let limit := fun a => onBus { lastSegment a with cycleTimer := some 0 }
    shows (exec (.cycleLimitExpiry .a) (limit .betweenPolls)) (fun t => (t.engine .a).failures == 1) = true
    ∧ shows (exec (.cycleLimitExpiry .a true) (limit .betweenPolls))
      (fun t => (t.engine .a).activity == .pollStart && (t.engine .a).cycleExpired) = true
    ∧ shows (exec (.cycleLimitExpiry .a) (limit .pollStart)) (fun t => (t.engine .a).cycleExpired) = true
    ∧ shows (exec (.cycleLimitExpiry .a) (limit .poll)) (fun t => (t.engine .a).cycleExpired) = true := by decide +kernel

/-- Log entry 42: a cycle limit that is due between two polls and taken before another step finds the next START begun. -/
theorem test_cycle_limit_before_another_step :
    let s := onBus { lastSegment .betweenPolls with cycleTimer := some 0 }
    s.quiet = false ∧ s.takeDue.quiet = true ∧ (s.takeDue.engine .a).activity = .pollStart
    ∧ (s.takeDue.engine .a).cycleExpired = true := by decide +kernel

/-- Log entry 42: before ABORT_REQUEST too, though its own operand says that the START is not begun. -/
theorem test_cycle_limit_before_abort_request :
    let e := { lastSegment .betweenPolls with cycleTimer := some 0 }
    (∃ t, e.transaction = some t ∧ shows (exec (.abortRequest .a false) (onBus { e with abortRequests := [t.owner] }))
      (fun u => (u.engine .a).activity == .pollStart && (u.engine .a).cycleExpired && (u.engine .a).abortRequested) = true) :=
  ⟨_, rfl, by decide +kernel⟩

theorem test_meets_LinesAndGaps :
    (onBus (atPoint readNow (.offset 0))).quiet = true
    ∧ shows (exec (.busConflict .a) (onBus (atPoint readNow (.offset 0)))) (fun t => t.portState .a == .recovering) = true
    ∧ ((onBus (atPoint { readNow with transfer := { readLast with offset := 0 } } (.offset 0))).byteSent .a = some 0
      ∧ exec (.busConflict .a) (onBus (atPoint { readNow with transfer := { readLast with offset := 0 } } (.offset 0))) =
        .next (onBus (atPoint { readNow with transfer := { readLast with offset := 0 } } (.offset 0))))
    ∧ shows (exec (.stretchEnd .a) (onBus { atPoint readNow (.dataIn 0) with stretchTimer := some 3 }))
      (fun t => (t.engine .a).stretchTimer == none) = true
    ∧ shows (exec (.stretchTimeout .a) (onBus { atPoint readNow (.dataIn 0) with stretchTimer := some 0 }))
      (fun t => (t.engine .a).activity == .stretchClockWait) = true
    ∧ shows (exec (.clockWaitEnd .a false) (onBus (atPoint readNow .stretchClockWait)))
      (fun t => (t.engine .a).activity == .stretchStop) = true
    ∧ shows (exec (.stopClockWaitExpiry .a) (onBus { atPoint readNow .stretchClockWait with waitTimer := some 0 }))
      (fun t => t.portState .a == .recovering) = true
    ∧ shows (exec (.retryGapEnd .a) (onBus { atPoint readNow .retryGap with waitTimer := some 0 }))
      (fun t => (t.engine .a).attempts == 2) = true :=
  ⟨by decide +kernel, by decide +kernel, ⟨by decide +kernel, rfl⟩, by decide +kernel, by decide +kernel,
    by decide +kernel, by decide +kernel, by decide +kernel⟩

theorem test_meets_AbortRequestTaken :
    shows (exec (.abortRequest .a) (onBus { atPoint readNow (.dataIn 9) with abortRequests := [.channel 7] }))
      (fun t => (t.engine .a).abortRequested) = true
    ∧ shows (exec (.abortRequest .a) (onBus { atPoint readNow .retryGap with abortRequests := [.channel 7] }))
      (fun t => t.portState .a == .idle) = true
    ∧ shows (exec (.abortRequest .a) (onBus { atPoint readNow (.dataIn 9) with abortRequests := [.channel 6] }))
      (fun t => !(t.engine .a).abortRequested && (t.engine .a).abortRequests == []) = true := by decide +kernel

/-- An abort request before a segment or a poll, its START not begun and begun, and while no transaction runs. -/
theorem test_abort_before_a_start :
    let asked := fun a => onBus { lastSegment a with transaction := some writeNow, abortRequests := [.ticket 255] }
    (asked .beforeSegment).quiet = true
    ∧ shows (exec (.abortRequest .a) (asked .beforeSegment)) (fun t => t.portState .a == .idle) = true
    ∧ shows (exec (.abortRequest .a true) (asked .beforeSegment))
      (fun t => (t.engine .a).activity == .formStart && (t.engine .a).abortRequested) = true
    ∧ shows (exec (.abortRequest .a) (asked .betweenPolls)) (fun t => t.portState .a == .idle) = true
    ∧ shows (exec (.abortRequest .a true) (asked .betweenPolls))
      (fun t => (t.engine .a).activity == .pollStart && (t.engine .a).abortRequested) = true := by decide +kernel

theorem test_meets_TransactionEnds :
    readNow.owner ≠ .replay
    ∧ (((onBus (atPoint watchNow (.formStop .final))).endTransaction .a
        { atPoint watchNow (.formStop .final) with scratch := List.replicate 16 1 } watchNow .done .idle
        false).engine .a).record.map (·.outcome) = some (some WatchOutcome.noHit) := by decide +kernel

/-- R107: a port that takes another state announces it, and one that takes the state it has does nothing. -/
theorem test_port_states_announced :
    (onBus (atPoint readNow (.formStop .final))).enterPortState .a .busy = onBus (atPoint readNow (.formStop .final))
    ∧ (let e := atPoint readNow (.formStop .final)
     let u := (onBus e).endTransaction .a e readNow .done .idle false
     u.portState .a = .idle ∧ u.portNews.a = [.idle] ∧ u.portNews.b = [] ∧ (u.arbiter .a).occasion = true) := by
  decide +kernel

/-- R101, R125: a recovery begun at a transaction's end waits for the clock line, one tick fewer in the effect of a tick. -/
theorem test_recovery_begun_at_the_end :
    let e := { atPoint readNow (.formStop .final) with cycleTimer := some 3, stretchTimer := some 4 }
    let waiting := fun (course : Course) (inTick : Bool) =>
      ((onBus e).endTransaction .a e readNow .stretchTimeout course inTick).engine .a
    (waiting .recovering true).waitTimer = some 1 ∧ (waiting .recovering false).waitTimer = some 2
    ∧ (waiting .recovering true).recovery = some { attempt := 1, pulses := 0, step := .clockWait }
    ∧ (waiting .idle true).waitTimer = none ∧ (waiting .idle true).cycleTimer = none
    ∧ (waiting .failed false).stretchTimer = none := by decide +kernel

/-- The end of the header read: its record goes to the Replay Unit, and no slot or busy range takes part. -/
theorem test_boot_read_ends :
    let s := (booting .header script none).setEngine .a (atPoint headerRead (.formStop .final))
    let u := s.endTransaction .a (s.engine .a) headerRead .done .idle false
    headerRead.owner = .replay ∧ u.replay.record = some { result := .done, moved := 0, attempts := 1 }
    ∧ (u.engine .a).record = none ∧ u.portState .a = .idle ∧ (u.arbiter .a).occasion = true := by decide +kernel

theorem test_meets_WatchCompares :
    (List.replicate 16 (0 : Byte)).length = watchLast.length
    ∧ comparisonHits [] watchLast .onMatch (List.replicate 16 1) = true
    ∧ comparisonHits (Memory.writeBytes [] 8160 [0xFF]) watchLast .onChange (List.replicate 16 1) = true := by
  decide +kernel

theorem test_meets_RecoveryRuns :
    shows (exec (.clockWaitEnd .a false) (atRecovery { attempt := 1, pulses := 8, step := .clockWait } (some 1) none))
      (fun t => (t.engine .a).recovery == some { attempt := 1, pulses := 8, step := .pulse }) = true
    ∧ shows (exec (.clockWaitEnd .a false) (atRecovery { attempt := 1, pulses := 9, step := .clockWait } (some 1) none))
      (fun t => (t.engine .a).recovery == some { attempt := 1, pulses := 9, step := .stop }) = true
    ∧ shows (exec (.recoveryPulse .a) (atRecovery { attempt := 1, pulses := 8, step := .pulse } none none))
      (fun t => (t.engine .a).recovery == some { attempt := 1, pulses := 9, step := .clockWait }) = true
    ∧ shows (exec (.recoveryClockWaitExpiry .a)
        (atRecovery { attempt := 2, pulses := 0, step := .clockWait } (some 0) none))
      (fun t => (t.engine .a).waitTimer == some 10) = true
    ∧ shows (exec (.recoveryGapEnd .a) (atRecovery { attempt := 2, pulses := 9, step := .gap } (some 0) none))
      (fun t => (t.engine .a).recoveryAttempt == 3) = true := by decide +kernel

theorem test_recovery_outcomes :
    shows (exec (.recoveryAttemptEnd .a linesHigh)
        (atRecovery { attempt := 2, pulses := 3, step := .stop } none (some readNow)))
      (fun t => t.portState .a == .busy && (t.engine .a).attempts == 1 && (t.engine .a).recoveries == 1) = true
    ∧ shows (exec (.recoveryAttemptEnd .a linesHigh)
        (atRecovery { attempt := 1, pulses := 0, step := .stop } none (some writeNow)))
      (fun t => (t.engine .a).segment == some { first := 32568, length := 8, place := 1 }) = true
    ∧ shows (exec (.recoveryAttemptEnd .a linesHigh) (atRecovery { attempt := 1, pulses := 0, step := .stop } none none))
      (fun t => t.portState .a == .idle && (t.arbiter .a).occasion) = true
    ∧ shows (exec (.recoveryAttemptEnd .a dataLow)
        (atRecovery { attempt := 3, pulses := 9, step := .stop } none (some readNow)))
      (fun t => t.portState .a == .failed && t.out.notices.attnLow && (t.engine .a).record.isSome) = true := by
  decide +kernel

/-- A record that the Target Table has not taken goes to its owner before the recovery goes on. -/
theorem test_record_before_recovery :
    let s := (atRecovery { attempt := 1, pulses := 0, step := .stop } none none)
    let e := s.engine .a
    let pending := ({ s with tickets := [ticketAt .inFlight none] } : State).setEngine .a
      { e with record := some { record := recordOf .busConflict, owner := .ticket 255, slot := 31, outcome := none } }
    (pending.quiet = true ∧ (pending.engine .a).recovery = some { attempt := 1, pulses := 0, step := .stop })
    ∧ shows (exec (.recoveryAttemptEnd .a linesHigh) pending)
      (fun t => t.portState .a == .idle && t.tickets == [ticketAt .inFlight (some (recordOf .busConflict))]) = true := by
  decide +kernel

/-! ### Witnesses: the invariants -/

/-- A state in operation meets every invariant, and steps. -/
theorem test_meets_Ok : Ok ready ∧ step ready = .next ready where
  left :=
    { staging :=
        { canonical := by decide
          below := fun _ h => absurd h List.not_mem_nil
          rings := fun c d h => absurd h (by revert c d; simp [ready, State.channel, State.reset, Channel.atReset])
          tickets := fun _ h => absurd h List.not_mem_nil
          transactions := fun p t h => absurd h (by cases p <;> simp [ready, State.engine, State.reset, PerPort.get, Engine.atReset])
          boot := fun p t h => absurd h (by cases p <;> simp [ready, State.engine, State.reset, PerPort.get, Engine.atReset]) }
      busy := fun p q r1 r2 _ h => absurd h (by cases p <;> simp [ready, State.reset, PerPort.get])
      pool := { total := by decide +kernel, rings := by decide +kernel }
      tickets := { room := by decide, distinct := by decide }
      targets :=
        { each := fun n t h => absurd h (by simp [ready, State.slot, State.reset, Slot.atReset])
          distinct := fun n m t u _ h => absurd h (by simp [ready, State.slot, State.reset, Slot.atReset]) }
      pacers := fun n => by
        have h : ready.pacer n = Pacer.atReset := by revert n; decide +kernel
        rw [h]
        exact ⟨by decide, fun h => absurd h (by decide), by decide⟩
      notices :=
        { room := by decide, window := by decide, distinct := by decide, attention := by decide, balance := by decide }
      engines := fun p => by
        cases p <;> exact ⟨fun h => absurd h (by decide), fun _ => rfl, by decide⟩
      flights := fun p => by
        cases p <;> exact
          ⟨fun _ _ _ => rfl, fun _ h => absurd h (by simp [ready, State.engine, State.reset, PerPort.get, Engine.atReset]),
            fun _ h => absurd h (by simp [ready, State.engine, State.reset, PerPort.get, Engine.atReset]),
            fun _ _ h => absurd h (by simp [ready, State.engine, State.reset, PerPort.get, Engine.atReset]),
            fun _ _ h => absurd h (by simp [ready, State.engine, State.reset, PerPort.get, Engine.atReset])⟩
      channels := fun c => by
        have h : ready.channel c = Channel.atReset := by revert c; decide +kernel
        rw [h]
        exact ⟨fun _ => rfl, fun h => absurd h (by decide), by decide, fun h => absurd h (by decide)⟩
      replay := fun _ => ⟨rfl, rfl⟩ }
  right := rfl

end Sys2Proof.Tests
end

/-! SUPPORT. Descriptors and their bytes (R6, R193, section 12.4): when a run of bytes is one, and that the bytes by which one is
reported are read as that one. -/

namespace Sys2Proof.Machine

/-! ### Fields of a run of bytes (R191) -/

theorem at1_lt (b : List Byte) (i : Nat) : at1 b i < 256 := (b.getD i 0).isLt

theorem at2_lt (b : List Byte) (i : Nat) : at2 b i < 65536 := by
  have h0 := at1_lt b i
  have h1 := at1_lt b (i + 1)
  unfold at2
  omega

theorem flagOf_eq_some_iff (n : Nat) (x : Bool) : flagOf n = some x ↔ n = if x then 1 else 0 := by
  unfold flagOf
  split
  · cases x <;> simp
  · cases x <;> simp
  · next h0 h1 => cases x <;> simp [show ¬n = 0 from h0, show ¬n = 1 from h1]

theorem flagOf_eq_none_iff (n : Nat) : flagOf n = none ↔ 1 < n := by
  unfold flagOf
  split
  · simp
  · simp
  · next h0 h1 =>
    have : n ≠ 0 := h0
    have : n ≠ 1 := h1
    simp only [true_iff]
    omega

theorem watchModeOf_eq_some_iff (n : Nat) (m : WatchMode) : watchModeOf n = some m ↔ m.code = n := by
  unfold watchModeOf
  split
  · cases m <;> simp [WatchMode.code]
  · cases m <;> simp [WatchMode.code]
  · cases m <;> simp [WatchMode.code]
  · next h1 h2 h3 =>
    cases m <;> simp only [WatchMode.code, reduceCtorEq, false_iff]
    · exact fun h => h1 h.symm
    · exact fun h => h2 h.symm
    · exact fun h => h3 h.symm

/-! ### The load-time checks (R6) -/

/-- R6, section 12.4: what a descriptor must satisfy to be loaded and to be reported without loss. -/
def Descriptor.Passes (d : Descriptor) : Prop :=
  match d with
  | .pause ms => 1 ≤ ms ∧ ms ≤ 65535
  | .transfer t =>
    t.offset ≤ 65535 ∧ 1 ≤ t.length
    ∧ match t.op with
      | .read => t.length ≤ 256 ∧ t.position + t.length ≤ 8192
      | .write => t.length ≤ 256 ∧ t.position + t.length ≤ 8192
      | .watch _ _ => t.length ≤ 16 ∧ t.position + 3 * t.length ≤ 8192

/-- Section 12.4: the eight bytes spell the descriptor. -/
def Descriptor.SpelledBy (d : Descriptor) (b : List Byte) : Prop :=
  match d with
  | .pause ms => at1 b 0 = 4 ∧ ms = at2 b 2
  | .transfer t =>
    t.slot.val = at1 b 1 ∧ t.offset = at2 b 2 ∧ t.length = at2 b 4 ∧ t.position = at2 b 6 % 8192
    ∧ match t.op with
      | .read => at1 b 0 = 1
      | .write => at1 b 0 = 2
      | .watch mode hold => at1 b 0 = 3 ∧ mode.code = at2 b 6 / 8192 % 4 ∧ hold = decide (32768 ≤ at2 b 6)

theorem plainTransferOf_eq_some_iff (op : TransferOp) (b : List Byte) (t : Transfer) :
    plainTransferOf op b = some t ↔
      t.op = op ∧ (t.slot.val = at1 b 1 ∧ t.offset = at2 b 2 ∧ t.length = at2 b 4 ∧ t.position = at2 b 6 % 8192)
      ∧ 1 ≤ t.length ∧ t.length ≤ 256 ∧ t.position + t.length ≤ 8192 := by
  obtain ⟨op', slot, offset, length, position⟩ := t
  unfold plainTransferOf
  dsimp only [Config.stagingBytes]
  split
  · split
    · simp only [Option.some.injEq, Transfer.mk.injEq, Fin.ext_iff]
      constructor
      · rintro ⟨rfl, h1, rfl, rfl, rfl⟩
        exact ⟨rfl, ⟨h1.symm, rfl, rfl, rfl⟩, by assumption⟩
      · rintro ⟨rfl, ⟨h1, rfl, rfl, rfl⟩, _⟩
        exact ⟨rfl, h1.symm, rfl, rfl, rfl⟩
    · simp only [reduceCtorEq, false_iff]
      rintro ⟨rfl, ⟨_, rfl, rfl, rfl⟩, h⟩
      omega
  · have := slot.isLt
    simp only [reduceCtorEq, false_iff]
    rintro ⟨_, ⟨h, _⟩, _⟩
    omega

theorem watchTransferOf_eq_some_iff (b : List Byte) (t : Transfer) :
    watchTransferOf b = some t ↔
      (∃ mode, t.op = .watch mode (decide (32768 ≤ at2 b 6)) ∧ mode.code = at2 b 6 / 8192 % 4)
      ∧ (t.slot.val = at1 b 1 ∧ t.offset = at2 b 2 ∧ t.length = at2 b 4 ∧ t.position = at2 b 6 % 8192)
      ∧ 1 ≤ t.length ∧ t.length ≤ 16 ∧ t.position + 3 * t.length ≤ 8192 := by
  obtain ⟨op', slot, offset, length, position⟩ := t
  unfold watchTransferOf
  dsimp only [Config.stagingBytes]
  split
  · split
    · next hnone =>
      simp only [reduceCtorEq, false_iff]
      rintro ⟨⟨mode, _, hm⟩, _⟩
      rw [(watchModeOf_eq_some_iff _ mode).mpr hm] at hnone
      cases hnone
    · next mode hmode =>
      rw [watchModeOf_eq_some_iff] at hmode
      have huniq : ∀ m : WatchMode, m.code = at2 b 6 / 8192 % 4 → m = mode := fun m hm =>
        Option.some.inj (((watchModeOf_eq_some_iff _ m).mpr hm).symm.trans ((watchModeOf_eq_some_iff _ mode).mpr hmode))
      split
      · simp only [Option.some.injEq, Transfer.mk.injEq, Fin.ext_iff]
        constructor
        · rintro ⟨rfl, h1, rfl, rfl, rfl⟩
          exact ⟨⟨mode, rfl, hmode⟩, by omega, by omega⟩
        · rintro ⟨⟨m, rfl, hm⟩, ⟨h1, rfl, rfl, rfl⟩, _⟩
          exact ⟨by rw [huniq m hm], h1.symm, rfl, rfl, rfl⟩
      · simp only [reduceCtorEq, false_iff]
        rintro ⟨_, ⟨_, rfl, rfl, rfl⟩, h⟩
        omega
  · have := slot.isLt
    simp only [reduceCtorEq, false_iff]
    rintro ⟨_, ⟨h, _⟩, _⟩
    omega

theorem descriptorOf_eq_pause_iff (b : List Byte) (ms : Nat) :
    descriptorOf b = some (.pause ms) ↔ at1 b 0 = 4 ∧ at2 b 2 ≠ 0 ∧ ms = at2 b 2 := by
  unfold descriptorOf
  split
  · simp_all
  · simp_all
  · simp_all
  · next h0 =>
    simp only [h0, true_and]
    split
    · next hz => simp [hz]
    · next hz => simp [hz, eq_comm]
  · next h => simp only [reduceCtorEq, false_iff, not_and]; exact fun h4 => absurd h4 h

theorem descriptorOf_eq_transfer_iff (b : List Byte) (t : Transfer) :
    descriptorOf b = some (.transfer t) ↔
      at1 b 0 = 1 ∧ plainTransferOf .read b = some t ∨ at1 b 0 = 2 ∧ plainTransferOf .write b = some t
      ∨ at1 b 0 = 3 ∧ watchTransferOf b = some t := by
  unfold descriptorOf
  split
  · next h0 => simp [h0]
  · next h0 => simp [h0]
  · next h0 => simp [h0]
  · next h0 =>
    simp only [h0]
    split <;> simp
  · next h1 h2 h3 h4 =>
    simp only [reduceCtorEq, false_iff]
    rintro (⟨h, _⟩ | ⟨h, _⟩ | ⟨h, _⟩)
    · exact h1 h
    · exact h2 h
    · exact h3 h

/-- R6, R193: eight bytes are a descriptor exactly if they spell it and it passes the load-time checks. -/
theorem descriptorOf_eq_some_iff (b : List Byte) (d : Descriptor) :
    descriptorOf b = some d ↔ d.Passes ∧ d.SpelledBy b := by
  have h2 := at2_lt b 2
  cases d with
  | pause ms =>
    rw [descriptorOf_eq_pause_iff]
    simp only [Descriptor.Passes, Descriptor.SpelledBy]
    omega
  | transfer t =>
    obtain ⟨op, slot, offset, length, position⟩ := t
    simp only [descriptorOf_eq_transfer_iff, plainTransferOf_eq_some_iff, watchTransferOf_eq_some_iff,
      Descriptor.Passes, Descriptor.SpelledBy]
    cases op with
    | read => simp only [reduceCtorEq, false_and, exists_false, and_false, or_false, true_and]; omega
    | write => simp only [reduceCtorEq, false_and, exists_false, and_false, or_false, false_or, true_and]; omega
    | watch mode hold =>
      simp only [reduceCtorEq, false_and, and_false, false_or, TransferOp.watch.injEq]
      constructor
      · rintro ⟨h0, ⟨m, ⟨rfl, rfl⟩, hm⟩, hs, hc⟩
        exact ⟨by omega, hs.1, hs.2.1, hs.2.2.1, hs.2.2.2, h0, hm, rfl⟩
      · rintro ⟨hc, h1, h3, h4, h5, h0, hm, rfl⟩
        exact ⟨h0, ⟨mode, ⟨rfl, rfl⟩, hm⟩, ⟨h1, h3, h4, h5⟩, by omega⟩

/-- R6, R45: a descriptor that passes the checks stays inside staging memory. -/
theorem Descriptor.Passes.fits {d : Descriptor} (h : d.Passes) : d.Fits := by
  cases d with
  | pause ms => trivial
  | transfer t =>
    obtain ⟨op, slot, offset, length, position⟩ := t
    cases op <;>
    · obtain ⟨_, hl, _, hp⟩ := h
      exact ⟨hl, hp⟩

theorem descriptorOf_fits {b : List Byte} {d : Descriptor} (h : descriptorOf b = some d) : d.Fits :=
  ((descriptorOf_eq_some_iff b d).mp h).1.fits

/-! ### Lists of descriptors (R8) -/

theorem descriptorsOf_succ_eq_some_iff (n : Nat) (b : List Byte) (ds : List Descriptor) :
    descriptorsOf (n + 1) b = some ds ↔
      ∃ d rest, ds = d :: rest ∧ descriptorOf (b.take 8) = some d ∧ descriptorsOf n (b.drop 8) = some rest := by
  rw [descriptorsOf]
  split
  · next d rest hd hr =>
    simp only [Option.some.injEq, hd, hr]
    exact ⟨fun h => ⟨d, rest, h.symm, rfl, rfl⟩, by rintro ⟨_, _, rfl, rfl, rfl⟩; rfl⟩
  · next hne =>
    simp only [reduceCtorEq, false_iff]
    rintro ⟨d, rest, _, hd, hr⟩
    exact hne d rest hd hr

theorem descriptorsOf_eq_some {n : Nat} {b : List Byte} {ds : List Descriptor} (h : descriptorsOf n b = some ds) :
    ds.length = n ∧ ∀ d ∈ ds, d.Fits := by
  induction n generalizing b ds with
  | zero =>
    obtain rfl : [] = ds := Option.some.inj h
    exact ⟨rfl, fun _ hd => absurd hd List.not_mem_nil⟩
  | succ n ih =>
    obtain ⟨d, rest, rfl, hd, hr⟩ := (descriptorsOf_succ_eq_some_iff n b ds).mp h
    obtain ⟨hl, hf⟩ := ih hr
    refine ⟨by rw [List.length_cons, hl], fun x hx => ?_⟩
    rcases List.mem_cons.mp hx with rfl | hx
    · exact descriptorOf_fits hd
    · exact hf x hx

/-! ### Descriptors reported (R193) -/

theorem Descriptor.length_bytes (d : Descriptor) : d.bytes.length = 8 := by cases d <;> rfl

theorem at1_pause_bytes (ms : Nat) : at1 (Descriptor.pause ms).bytes 0 = 4 := rfl

theorem at2_pause_bytes (ms : Nat) : at2 (Descriptor.pause ms).bytes 2 = ms % 65536 := by
  simp only [Descriptor.bytes, byte1, bytes2, at1, at2, List.cons_append, List.nil_append, List.getD_cons_succ,
    List.getD_cons_zero, BitVec.toNat_ofNat]
  omega

/-- The fields of a transfer as it is reported, by the table of section 12.4. -/
theorem transfer_bytes_fields (t : Transfer) :
    at1 (Descriptor.transfer t).bytes 0 = t.op.code ∧ at1 (Descriptor.transfer t).bytes 1 = t.slot.val
    ∧ at2 (Descriptor.transfer t).bytes 2 = t.offset % 65536 ∧ at2 (Descriptor.transfer t).bytes 4 = t.length % 65536
    ∧ at2 (Descriptor.transfer t).bytes 6 = (t.position + t.op.highBits) % 65536 := by
  have hcode : t.op.code < 256 := by cases t.op <;> simp [TransferOp.code]
  have hslot := t.slot.isLt
  simp only [Descriptor.bytes, byte1, bytes2, at1, at2, List.cons_append, List.nil_append, List.getD_cons_succ,
    List.getD_cons_zero, BitVec.toNat_ofNat]
  omega

/-- The bytes by which a descriptor that passes is reported are read as that descriptor. -/
theorem descriptorOf_bytes {d : Descriptor} (h : d.Passes) : descriptorOf d.bytes = some d := by
  refine (descriptorOf_eq_some_iff _ _).mpr ⟨h, ?_⟩
  cases d with
  | pause ms =>
    obtain ⟨_, hmax⟩ := h
    exact ⟨at1_pause_bytes ms, by rw [at2_pause_bytes]; omega⟩
  | transfer t =>
    obtain ⟨h0, h1, h2, h4, h6⟩ := transfer_bytes_fields t
    obtain ⟨op, slot, offset, length, position⟩ := t
    dsimp only [Descriptor.SpelledBy, Descriptor.Passes] at *
    cases op with
    | read => simp only [TransferOp.code, TransferOp.highBits] at *; omega
    | write => simp only [TransferOp.code, TransferOp.highBits] at *; omega
    | watch mode hold =>
      have hmode : 1 ≤ mode.code ∧ mode.code ≤ 3 := by cases mode <;> decide
      have hflag : flagCode hold = if hold then 1 else 0 := rfl
      simp only [TransferOp.code, TransferOp.highBits] at *
      refine ⟨h1.symm, by omega, by omega, by split at hflag <;> omega, h0, by split at hflag <;> omega, ?_⟩
      cases hold
      · simp only [Bool.false_eq_true, if_false] at hflag
        exact (decide_eq_false (by omega)).symm
      · simp only [if_true] at hflag
        exact (decide_eq_true (by omega)).symm

/-- The same of a list of descriptors, one after another. -/
theorem descriptorsOf_bytes {ds : List Descriptor} (h : ∀ d ∈ ds, d.Passes) :
    descriptorsOf ds.length (ds.flatMap Descriptor.bytes) = some ds := by
  induction ds with
  | nil => rfl
  | cons d rest ih =>
    refine (descriptorsOf_succ_eq_some_iff _ _ _).mpr ⟨d, rest, rfl, ?_, ?_⟩
    · rw [List.flatMap_cons, List.take_left' d.length_bytes]
      exact descriptorOf_bytes (h d (List.mem_cons_self ..))
    · rw [List.flatMap_cons, List.drop_left' d.length_bytes]
      exact ih fun x hx => h x (List.mem_cons_of_mem _ hx)

end Sys2Proof.Machine

/-! SUPPORT. What every step keeps: the relation Keeps between the states before and after, one rule for each update of the
state, and from these one lemma for each operation of the model up to the whole step. -/

namespace Sys2Proof.Machine

/-! ### Lists of which the first member that fits changes -/

theorem modifyFirst_map_of {α β : Type} (p : α → Bool) (f : α → α) (g : α → β) (h : ∀ x, p x = true → g (f x) = g x)
    (l : List α) : (modifyFirst p f l).map g = l.map g := by
  induction l with
  | nil => rfl
  | cons x rest ih =>
    unfold modifyFirst
    split
    · next hp => simp [h x hp]
    · simp [ih]

theorem countP_modifyFirst_le {α : Type} (p q : α → Bool) (f : α → α) (l : List α) :
    (modifyFirst p f l).countP q ≤ l.countP q + 1 := by
  induction l with
  | nil => simp [modifyFirst]
  | cons x rest ih =>
    unfold modifyFirst
    split
    · simp only [List.countP_cons]
      split <;> split <;> omega
    · simp only [List.countP_cons]
      omega

/-! ### Numbers not in use (R64, R137) -/

/-- With fewer than 256 numbers in use the number found is not one of them. -/
theorem freshNumber_not_mem {used : List Nat} (next : Nat) (h : used.length < 256) : freshNumber used next ∉ used := by
  have hex : ∃ n ∈ (List.range 256).map (fun i => (next + i) % 256), n ∉ used := by
    by_contra hall
    push Not at hall
    have hnd : ((List.range 256).map (fun i => (next + i) % 256)).Nodup := by
      refine List.Nodup.map_on ?_ List.nodup_range
      intro x hx y hy hxy
      simp only [List.mem_range] at hx hy
      omega
    have hle := (hnd.subperm hall).length_le
    simp only [List.length_map, List.length_range] at hle
    omega
  unfold freshNumber
  cases hf : ((List.range 256).map (fun i => (next + i) % 256)).find? (fun n => !used.contains n) with
  | none =>
    obtain ⟨n, hn, hu⟩ := hex
    have := List.find?_eq_none.mp hf n hn
    simp [hu] at this
  | some n => simpa using List.find?_some hf

/-! ### Notices (R135 to R155) -/

/-- ATTN_N depends on the kinds of the held notices alone (R154). -/
theorem attnLevel_of_kinds {l l' : List Notice} (h : l'.map (·.kind) = l.map (·.kind)) : attnLevel l' = attnLevel l := by
  have key : ∀ l : List Notice, attnLevel l = (l.map (·.kind)).any (fun k => k.noticeClass == .alarm) := by
    intro l
    rw [List.any_map]
    rfl
  rw [key, key, h]

theorem windowCount_of_places {l l' : List Notice} (h : l'.map (·.inWindow) = l.map (·.inWindow)) :
    windowCount l' = windowCount l := by
  have key : ∀ l : List Notice, windowCount l = (l.map (·.inWindow)).countP id := by
    intro l
    simp [windowCount, List.countP_map]
  rw [key, key, h]

/-- A queue whose notices keep their numbers and alarms, and whose counters keep their balance, is as good as before if its
window has room. -/
theorem NoticesOk.of_lists {q r : NoticeQueue} (h : NoticesOk q) (hn : r.held.map (·.number) = q.held.map (·.number))
    (ha : r.attnLow = q.attnLow) (hk : attnLevel r.held = attnLevel q.held) (hw : windowCount r.held ≤ Config.windowMax)
    (hc : r.counters.created - r.counters.merged = q.counters.created - q.counters.merged)
    (hk' : r.counters.acknowledged = q.counters.acknowledged) (hd : r.counters.discarded = q.counters.discarded) :
    NoticesOk r := by
  have hl : r.held.length = q.held.length := by simpa using congrArg List.length hn
  refine ⟨hl ▸ h.room, hw, hn ▸ h.distinct, by rw [ha, hk, h.attention], ?_⟩
  have hb := h.balance
  rw [hl, hk', hd]
  grind

theorem SameNotices.ok {q r : NoticeQueue} (h : SameNotices q r) (hw : windowCount r.held ≤ Config.windowMax)
    (hq : NoticesOk q) : NoticesOk r :=
  hq.of_lists h.numbers h.attention (attnLevel_of_kinds h.kinds) hw (by rw [h.counters]) (by rw [h.counters])
    (by rw [h.counters])

/-- The transmitter's choice keeps the notices: a notice enters the window only while it has room (R145). -/
theorem choose_keeps_notices {o : Outbound} (h : NoticesOk o.notices) : NoticesOk o.choose.notices := by
  refine (choose_sameNotices o).ok ?_ h
  have sent (sel : Notice → Bool) (again : Bool) (l : List Notice) (hl : l = modifyFirst sel Notice.sent o.notices.held)
      (hw : windowCount l ≤ Config.windowMax) : windowCount (o.sendNotice sel again).notices.held ≤ Config.windowMax := by
    unfold Outbound.sendNotice
    split
    · exact h.window
    · subst hl; exact hw
  rcases choose_cases o with hc | ⟨r, _, hc⟩ | ⟨_, _, hc⟩ | ⟨_, hroom, hc⟩ <;> rw [hc]
  · exact h.window
  · exact h.window
  · refine sent _ _ _ rfl ?_
    rw [windowCount_of_places (modifyFirst_map_of _ _ _ (fun n hn => ?_) _)]
    · exact h.window
    · simp only [Notice.isDue, Bool.and_eq_true] at hn
      exact hn.1.symm
  · have := countP_modifyFirst_le (Notice.queuedOf (nextQueuedClass o.notices.held)) (·.inWindow) Notice.sent
      o.notices.held
    exact sent _ _ _ rfl (by unfold windowCount at *; omega)

/-- A stored claim is the last of the held notices, QUEUED, with a number of its own (R137, R141). -/
theorem store_keeps_notices {q : NoticeQueue} {k : NoticeKind} (hroom : q.held.length < Config.noticeMax)
    (hw : windowCount q.held ≤ Config.windowMax) (hd : (q.held.map (·.number)).Nodup)
    (hb : q.counters.created =
      q.counters.acknowledged + BitVec.ofNat 32 q.held.length + q.counters.discarded + q.counters.merged + 1) :
    NoticesOk (q.store k) where
  room := by simp only [NoticeQueue.store, List.length_append, List.length_singleton]; omega
  window := by simpa [NoticeQueue.store, windowCount] using hw
  distinct := by
    have hfresh := freshNumber_not_mem (used := q.held.map (·.number)) q.nextNumber
      (by simp only [List.length_map, Config.noticeMax] at *; omega)
    simp only [NoticeQueue.store, List.map_append, List.map_cons, List.map_nil]
    exact List.nodup_append.mpr ⟨hd, List.nodup_singleton _, by
      intro a ha b hb' hab
      rw [List.mem_singleton.mp hb'] at hab
      exact hfresh (hab ▸ ha)⟩
  attention := rfl
  balance := by
    simp only [NoticeQueue.store, List.length_append, List.length_singleton, BitVec.ofNat_add]
    rw [hb]
    grind

/-- A notice that can merge is no ALARM (R138). -/
theorem noticeClass_of_subject {k : NoticeKind} {x : MergeSubject} (h : k.subject = some x) : k.noticeClass ≠ .alarm := by
  cases k <;> simp [NoticeKind.subject, NoticeKind.noticeClass] at h ⊢

/-- A merge changes neither numbers nor places nor alarms (R140). -/
theorem mergeInto_held (held : List Notice) (k : NoticeKind) :
    (mergeInto held k).map (·.number) = held.map (·.number) ∧ windowCount (mergeInto held k) = windowCount held
    ∧ attnLevel (mergeInto held k) = attnLevel held := by
  unfold mergeInto
  split
  · exact ⟨rfl, rfl, rfl⟩
  · next x hx =>
    refine ⟨modifyFirst_map _ _ _ (by exact fun _ => rfl) _, windowCount_of_places (modifyFirst_map _ _ _ (by exact fun _ => rfl) _), ?_⟩
    have key : ∀ l : List Notice, attnLevel l = (l.map Notice.isAlarm).any id := by
      intro l; simp [attnLevel, List.any_map]
    rw [key, key]
    refine congrArg (List.any · id) (modifyFirst_map_of _ _ _ (fun n hn => ?_) _)
    simp only [Notice.mergesWith, Bool.and_eq_true, beq_iff_eq] at hn
    simp [Notice.isAlarm, noticeClass_of_subject hx, noticeClass_of_subject hn.2]

/-- A claim settled keeps the notices (R139 to R142). -/
theorem settle_keeps_notices {q : NoticeQueue} (k : NoticeKind) (h : NoticesOk q) : NoticesOk (q.settle k) := by
  rcases settle_cases q k with ⟨_, hs⟩ | ⟨_, hroom, hs⟩ | ⟨_, hfull, rest, hdis, hs⟩ | ⟨_, _, _, hs⟩ <;> rw [hs]
  · obtain ⟨hnum, hwin, hatt⟩ := mergeInto_held q.held k
    exact h.of_lists hnum rfl hatt (hwin ▸ h.window) (by dsimp only; grind) rfl rfl
  · exact store_keeps_notices hroom h.window h.distinct (by dsimp only; rw [h.balance])
  · obtain ⟨cls, _, hany, rfl⟩ := displace_some hdis
    have hsub := List.eraseP_sublist (p := Notice.queuedOf cls) (l := q.held)
    have hlen : (q.held.eraseP (Notice.queuedOf cls)).length + 1 = q.held.length := by
      obtain ⟨n, hn, hp⟩ := List.any_eq_true.mp hany
      have := List.length_eraseP_of_mem hn hp
      have := List.length_pos_of_mem hn
      omega
    have hroom := h.room
    refine store_keeps_notices (by dsimp only; omega) ((hsub.countP_le).trans h.window)
      ((hsub.map _).nodup h.distinct) ?_
    dsimp only
    rw [h.balance, ← hlen, BitVec.ofNat_add]
    grind
  · exact ⟨h.room, h.window, h.distinct, h.attention, by dsimp only; rw [h.balance]; grind⟩

/-- An acknowledgement keeps the notices (R149). -/
theorem acknowledge_keeps_notices {q : NoticeQueue} (n : Nat) (h : NoticesOk q) : NoticesOk (q.acknowledge n) := by
  unfold NoticeQueue.acknowledge
  split
  · next hany =>
    have hsub := List.eraseP_sublist (p := Notice.inWindowWith n) (l := q.held)
    have hlen : (q.held.eraseP (Notice.inWindowWith n)).length + 1 = q.held.length := by
      obtain ⟨m, hm, hp⟩ := List.any_eq_true.mp hany
      have := List.length_eraseP_of_mem hm hp
      have := List.length_pos_of_mem hm
      omega
    refine ⟨hsub.length_le.trans h.room, hsub.countP_le.trans h.window, (hsub.map _).nodup h.distinct, rfl, ?_⟩
    dsimp only
    rw [h.balance, ← hlen, BitVec.ofNat_add]
    grind
  · exact ⟨h.room, h.window, h.distinct, h.attention, h.balance⟩

/-- Held notices that change otherwise than in number, kind and place are kept. -/
theorem NoticesOk.of_held {q : NoticeQueue} (h : NoticesOk q) {held : List Notice} (muted : Bool)
    (counters : NoticeCounters) (hn : held.map (·.number) = q.held.map (·.number))
    (hk : held.map (·.kind) = q.held.map (·.kind)) (hp : held.map (·.inWindow) = q.held.map (·.inWindow))
    (hc : counters = { q.counters with muteEntries := counters.muteEntries }) :
    NoticesOk { q with held := held, muted := muted, counters := counters } :=
  h.of_lists hn rfl (attnLevel_of_kinds hk) (windowCount_of_places hp ▸ h.window) (by dsimp only; rw [hc])
    (by dsimp only; rw [hc]) (by dsimp only; rw [hc])

theorem heard_keeps_notices {q : NoticeQueue} (h : NoticesOk q) : NoticesOk q.heard := by
  unfold NoticeQueue.heard
  have hm : ∀ n : Notice, n.afterMute.number = n.number ∧ n.afterMute.kind = n.kind ∧ n.afterMute.inWindow = n.inWindow := by
    intro n
    unfold Notice.afterMute
    split <;> exact ⟨rfl, rfl, rfl⟩
  split
  · exact h.of_held false q.counters (by simp [hm]) (by simp [hm]) (by simp [hm]) rfl
  · exact h

theorem timerExpiry_keeps_notices {q : NoticeQueue} (n : Nat) (h : NoticesOk q) : NoticesOk (q.timerExpiry n) := by
  have hm (muted : Bool) (counters : NoticeCounters)
      (hc : counters = { q.counters with muteEntries := counters.muteEntries }) :
      NoticesOk { q with held := modifyFirst (Notice.timerOut n) Notice.afterTimer q.held, muted := muted
                         counters := counters } :=
    h.of_held muted counters (modifyFirst_map _ _ _ (by exact fun _ => rfl) _) (modifyFirst_map _ _ _ (by exact fun _ => rfl) _)
      (modifyFirst_map _ _ _ (by exact fun _ => rfl) _) hc
  unfold NoticeQueue.timerExpiry
  split
  · exact h
  · dsimp only
    split
    · exact hm _ _ rfl
    · exact hm _ _ rfl

theorem tick_keeps_notices {q : NoticeQueue} (h : NoticesOk q) : NoticesOk q.tick := by
  have hm : ∀ n : Notice, n.tick.number = n.number ∧ n.tick.kind = n.kind ∧ n.tick.inWindow = n.inWindow := by
    intro n
    unfold Notice.tick
    split <;> exact ⟨rfl, rfl, rfl⟩
  exact h.of_held q.muted q.counters (by simp [hm]) (by simp [hm]) (by simp [hm]) rfl

theorem claim_keeps_notices {o : Outbound} (k : NoticeKind) (h : NoticesOk o.notices) : NoticesOk (o.claim k).notices :=
  choose_keeps_notices (settle_keeps_notices k h)

theorem placeReply_keeps_notices {o : Outbound} (r : Reply) (h : NoticesOk o.notices) :
    NoticesOk (o.placeReply r).notices :=
  choose_keeps_notices (o := { o with reply := .pending r, takingNext := false }) h

/-- The end of a frame keeps the notices (R144, R146). -/
theorem frameEnd_keeps_notices {o : Outbound} (b : Bool) (h : NoticesOk o.notices) : NoticesOk (o.frameEnd b).notices := by
  unfold Outbound.frameEnd
  split
  · exact h
  · split
    · dsimp only
      split
      · exact h
      · split
        · exact h
        · exact choose_keeps_notices h
    · exact choose_keeps_notices (h.of_held o.notices.muted o.notices.counters (modifyFirst_map _ _ _ (by exact fun _ => rfl) _)
        (modifyFirst_map _ _ _ (by exact fun _ => rfl) _) (modifyFirst_map _ _ _ (by exact fun _ => rfl) _) rfl)

end Sys2Proof.Machine

namespace Sys2Proof.Machine

/-! ### What a step keeps -/

/-- R6, R85, R180: a transaction of an arbiter stays inside staging memory; a boot memory read is a READ; a write in segments
goes to a target that has pages. -/
structure Transaction.Sound (t : Transaction) : Prop where
  fits : t.owner ≠ .replay → t.transfer.Fits
  boot : t.owner = .replay → t.transfer.op = .read
  page : t.segmented = true → 1 ≤ t.defn.pageSize

/-- The invariants that staging memory and the transactions in flight need of each other, of the engines and of the target
table. -/
structure BusesOk (s : State) : Prop where
  staging : StagingOk s
  flights : ∀ p, FlightOk (s.engine p)
  engines : ∀ p, EngineOk (s.engine p)
  targets : TargetsOk s

/-- From s to t each invariant of Ok is kept: by itself, but for those on staging memory and the transactions in flight, which
are kept together. -/
structure Keeps (s t : State) : Prop where
  pool : PoolOk s → PoolOk t
  tickets : TicketsOk s → TicketsOk t
  targets : TargetsOk s → TargetsOk t
  pacers : (∀ n, PacerOk (s.pacer n)) → ∀ n, PacerOk (t.pacer n)
  notices : NoticesOk s.out.notices → NoticesOk t.out.notices
  channels : (∀ c, ChannelOk (s.channel c)) → ∀ c, ChannelOk (t.channel c)
  replay : ReplayOk s.replay → ReplayOk t.replay
  engines : (∀ p, EngineOk (s.engine p)) → ∀ p, EngineOk (t.engine p)
  busy : BusyOk s → BusyOk t
  buses : BusesOk s → StagingOk t ∧ ∀ p, FlightOk (t.engine p)

theorem BusesOk.of_keeps {s t : State} (h : BusesOk s) (k : Keeps s t) : BusesOk t :=
  ⟨(k.buses h).1, (k.buses h).2, k.engines h.engines, k.targets h.targets⟩

theorem BusesOk.sound {s : State} (h : BusesOk s) {p : Port} {t : Transaction} (ht : (s.engine p).transaction = some t) :
    t.Sound :=
  ⟨h.staging.transactions p t ht, h.staging.boot p t ht, (h.flights p).page t ht⟩

theorem Ok.buses {s : State} (h : Ok s) : BusesOk s := ⟨h.staging, h.flights, h.engines, h.targets⟩

/-- What is kept on the way from an Ok state makes the next one Ok. -/
theorem Ok.of_keeps {s t : State} (h : Ok s) (k : Keeps s t) : Ok t where
  staging := (k.buses h.buses).1
  busy := k.busy h.busy
  pool := k.pool h.pool
  tickets := k.tickets h.tickets
  targets := k.targets h.targets
  pacers := k.pacers h.pacers
  notices := k.notices h.notices
  engines := k.engines h.engines
  flights := (k.buses h.buses).2
  channels := k.channels h.channels
  replay := k.replay h.replay

namespace Keeps

theorem refl (s : State) : Keeps s s := ⟨id, id, id, id, id, id, id, id, id, fun h => ⟨h.staging, h.flights⟩⟩

theorem trans {s t u : State} (h : Keeps s t) (k : Keeps t u) : Keeps s u where
  pool := k.pool ∘ h.pool
  tickets := k.tickets ∘ h.tickets
  targets := k.targets ∘ h.targets
  pacers := k.pacers ∘ h.pacers
  notices := k.notices ∘ h.notices
  channels := k.channels ∘ h.channels
  replay := k.replay ∘ h.replay
  engines := k.engines ∘ h.engines
  busy := k.busy ∘ h.busy
  buses := fun hs => k.buses (hs.of_keeps h)

/-- Into an Ok state everything is kept, whatever the state before was. -/
theorem of_ok {s t : State} (h : Ok t) : Keeps s t :=
  ⟨fun _ => h.pool, fun _ => h.tickets, fun _ => h.targets, fun _ => h.pacers, fun _ => h.notices, fun _ => h.channels,
    fun _ => h.replay, fun _ => h.engines, fun _ => h.busy, fun _ => ⟨h.staging, h.flights⟩⟩

theorem foldl {α : Type} {f : State → α → State} (h : ∀ s x, Keeps s (f s x)) (xs : List α) (s : State) :
    Keeps s (xs.foldl f s) := by
  induction xs generalizing s with
  | nil => exact refl s
  | cons x rest ih => exact (h s x).trans (ih _)

/-! ### The updates of the state, one rule each -/

/-- No invariant speaks of the queue of commands, the holds, the straps, the receiving side, the interpreter, the
announcements, the next ticket number or the arbiters. -/
theorem unread (s : State) (pending : List Instr) (hold low : Bool) (straps : Straps) (link : Link) (interp : Interpreter)
    (news : List SlotIx) (next : Nat) (arb : PerPort Arbiter) (portNews : PerPort (List PortState)) :
    Keeps s { s with
      pending := pending, powerOnHold := hold, resetNLow := low, straps := straps, link := link, interp := interp
      slotNews := news, nextTicket := next, arbiters := arb, portNews := portNews } where
  pool h := ⟨h.total, h.rings⟩
  tickets h := ⟨h.room, h.distinct⟩
  targets h := ⟨h.each, h.distinct⟩
  pacers := id
  notices := id
  channels := id
  replay := id
  engines := id
  busy := id
  buses h := ⟨⟨h.staging.canonical, h.staging.below, h.staging.rings, h.staging.tickets, h.staging.transactions,
    h.staging.boot⟩, h.flights⟩

theorem arbiters (s : State) (arb : PerPort Arbiter) : Keeps s { s with arbiters := arb } :=
  unread s s.pending s.powerOnHold s.resetNLow s.straps s.link s.interp s.slotNews s.nextTicket arb s.portNews

theorem link (s : State) (link : Link) : Keeps s { s with link := link } :=
  unread s s.pending s.powerOnHold s.resetNLow s.straps link s.interp s.slotNews s.nextTicket s.arbiters s.portNews

theorem interp (s : State) (interp : Interpreter) : Keeps s { s with interp := interp } :=
  unread s s.pending s.powerOnHold s.resetNLow s.straps s.link interp s.slotNews s.nextTicket s.arbiters s.portNews

theorem slotNews (s : State) (news : List SlotIx) : Keeps s { s with slotNews := news } :=
  unread s s.pending s.powerOnHold s.resetNLow s.straps s.link s.interp news s.nextTicket s.arbiters s.portNews

theorem portNews (s : State) (news : PerPort (List PortState)) : Keeps s { s with portNews := news } :=
  unread s s.pending s.powerOnHold s.resetNLow s.straps s.link s.interp s.slotNews s.nextTicket s.arbiters news

theorem pending (s : State) (pending : List Instr) : Keeps s { s with pending := pending } :=
  unread s pending s.powerOnHold s.resetNLow s.straps s.link s.interp s.slotNews s.nextTicket s.arbiters s.portNews

theorem setArbiter (s : State) (p : Port) (x : Arbiter) : Keeps s (s.setArbiter p x) := arbiters s _

theorem announceSlot (s : State) (n : SlotIx) : Keeps s (s.announceSlot n) := slotNews s _

/-- The sending side. -/
theorem out {s : State} {o : Outbound} (h : NoticesOk s.out.notices → NoticesOk o.notices) :
    Keeps s { s with out := o } where
  pool h := ⟨h.total, h.rings⟩
  tickets h := ⟨h.room, h.distinct⟩
  targets h := ⟨h.each, h.distinct⟩
  pacers := id
  notices := h
  channels := id
  replay := id
  engines := id
  busy := id
  buses h := ⟨⟨h.staging.canonical, h.staging.below, h.staging.rings, h.staging.tickets, h.staging.transactions,
    h.staging.boot⟩, h.flights⟩

/-- The channels, when no ring changes. -/
theorem ofChannels {s : State} {chs : Vector Channel 8} (hr : ∀ c : ChannelIx, chs[c].ring = (s.channel c).ring)
    (h : ∀ c : ChannelIx, ChannelOk (s.channel c) → ChannelOk chs[c]) : Keeps s { s with channels := chs } where
  pool hs := ⟨by
    have := hs.total
    simp only [← hr] at this
    exact this, fun c => hr c ▸ hs.rings c⟩
  tickets h := ⟨h.room, h.distinct⟩
  targets h := ⟨h.each, h.distinct⟩
  pacers := id
  notices := id
  channels hs c := h c (hs c)
  replay := id
  engines := id
  busy := id
  buses h := ⟨⟨h.staging.canonical, h.staging.below, fun c => hr c ▸ h.staging.rings c, h.staging.tickets,
    h.staging.transactions, h.staging.boot⟩, h.flights⟩

/-- A channel whose ring stays. -/
theorem setChannel {s : State} {c : ChannelIx} {ch : Channel} (hr : ch.ring = (s.channel c).ring)
    (h : ChannelOk (s.channel c) → ChannelOk ch) : Keeps s (s.setChannel c ch) := by
  refine ofChannels (fun k => ?_) fun k hk => ?_
  · change ((s.setChannel c ch).channel k).ring = _
    rw [setChannel_channel]
    split
    · next he => rw [he, hr]
    · rfl
  · change ChannelOk ((s.setChannel c ch).channel k)
    rw [setChannel_channel]
    split
    · next he => exact h (he ▸ hk)
    · exact hk

/-- Work after a change of a channel's record that leaves its ring. -/
theorem ofSetChannel {s t : State} {c : ChannelIx} {ch : Channel} (k : Keeps (s.setChannel c ch) t)
    (hr : ch.ring = (s.channel c).ring) (h : ChannelOk (s.channel c) → ChannelOk ch) : Keeps s t :=
  (setChannel hr h).trans k

/-- Tickets that come from those there were, each with its number and its transfer. -/
theorem ofTickets {s : State} {ts : List Ticket} (hn : (ts.map (·.number)).Sublist (s.tickets.map (·.number)))
    (ht : ∀ t ∈ ts, ∃ u ∈ s.tickets, t.transfer = u.transfer) : Keeps s { s with tickets := ts } where
  pool h := ⟨h.total, h.rings⟩
  tickets h := ⟨(by simpa using hn.length_le : ts.length ≤ s.tickets.length).trans h.room, hn.nodup h.distinct⟩
  targets h := ⟨h.each, h.distinct⟩
  pacers := id
  notices := id
  channels := id
  replay := id
  engines := id
  busy := id
  buses h := ⟨⟨h.staging.canonical, h.staging.below, h.staging.rings,
    fun t hm => by obtain ⟨u, hu, he⟩ := ht t hm; exact he ▸ h.staging.tickets u hu, h.staging.transactions,
    h.staging.boot⟩, h.flights⟩

/-- A slot. -/
theorem setSlot {s : State} {n : SlotIx} {sl : Slot} (h : TargetsOk s → TargetsOk (s.setSlot n sl)) :
    Keeps s (s.setSlot n sl) where
  pool h := ⟨h.total, h.rings⟩
  tickets h := ⟨h.room, h.distinct⟩
  targets := h
  pacers := id
  notices := id
  channels := id
  replay := id
  engines := id
  busy := id
  buses h := ⟨⟨h.staging.canonical, h.staging.below, h.staging.rings, h.staging.tickets, h.staging.transactions,
    h.staging.boot⟩, h.flights⟩

/-- The pacers, each by itself. -/
theorem ofPacers {s : State} {pcs : Vector Pacer 4} (h : ∀ n : PacerIx, PacerOk (s.pacer n) → PacerOk pcs[n]) :
    Keeps s { s with pacers := pcs } where
  pool h := ⟨h.total, h.rings⟩
  tickets h := ⟨h.room, h.distinct⟩
  targets h := ⟨h.each, h.distinct⟩
  pacers hs n := h n (hs n)
  notices := id
  channels := id
  replay := id
  engines := id
  busy := id
  buses h := ⟨⟨h.staging.canonical, h.staging.below, h.staging.rings, h.staging.tickets, h.staging.transactions,
    h.staging.boot⟩, h.flights⟩

/-- A pacer. -/
theorem setPacer {s : State} {n : PacerIx} {pc : Pacer} (h : PacerOk (s.pacer n) → PacerOk pc) :
    Keeps s (s.setPacer n pc) := by
  refine ofPacers fun k hk => ?_
  change PacerOk ((s.setPacer n pc).pacer k)
  rw [setPacer_pacer]
  split
  · next he => exact h (he ▸ hk)
  · exact hk

/-- The Replay Unit. -/
theorem ofReplay {s : State} {r : Replay} (h : ReplayOk s.replay → ReplayOk r) : Keeps s { s with replay := r } where
  pool h := ⟨h.total, h.rings⟩
  tickets h := ⟨h.room, h.distinct⟩
  targets h := ⟨h.each, h.distinct⟩
  pacers := id
  notices := id
  channels := id
  replay := h
  engines := id
  busy := id
  buses h := ⟨⟨h.staging.canonical, h.staging.below, h.staging.rings, h.staging.tickets, h.staging.transactions,
    h.staging.boot⟩, h.flights⟩

/-- Staging memory. -/
theorem ofStaging {s : State} {m : Memory}
    (h : BusesOk s → m.wf = true ∧ m.Below Config.stagingBytes) : Keeps s { s with staging := m } where
  pool h := ⟨h.total, h.rings⟩
  tickets h := ⟨h.room, h.distinct⟩
  targets h := ⟨h.each, h.distinct⟩
  pacers := id
  notices := id
  channels := id
  replay := id
  engines := id
  busy := id
  buses hs := ⟨⟨(h hs).1, (h hs).2, hs.staging.rings, hs.staging.tickets, hs.staging.transactions,
    hs.staging.boot⟩, hs.flights⟩

/-- The busy-range list. -/
theorem ofBusy {s : State} {b : PerPort (Option BusyRange)} (h : BusyOk s → BusyOk { s with busy := b }) :
    Keeps s { s with busy := b } where
  pool h := ⟨h.total, h.rings⟩
  tickets h := ⟨h.room, h.distinct⟩
  targets h := ⟨h.each, h.distinct⟩
  pacers := id
  notices := id
  channels := id
  replay := id
  engines := id
  busy := h
  buses h := ⟨⟨h.staging.canonical, h.staging.below, h.staging.rings, h.staging.tickets, h.staging.transactions,
    h.staging.boot⟩, h.flights⟩

/-- The engines, each by itself. -/
theorem ofEngines {s : State} {es : PerPort Engine} (he : ∀ p, EngineOk (s.engine p) → EngineOk (es.get p))
    (hf : ∀ p, BusesOk s → FlightOk (es.get p) ∧ ∀ t, (es.get p).transaction = some t → t.Sound) :
    Keeps s { s with engines := es } where
  pool h := ⟨h.total, h.rings⟩
  tickets h := ⟨h.room, h.distinct⟩
  targets h := ⟨h.each, h.distinct⟩
  pacers := id
  notices := id
  channels := id
  replay := id
  engines hs p := he p (hs p)
  busy := id
  buses h := ⟨⟨h.staging.canonical, h.staging.below, h.staging.rings, h.staging.tickets,
    fun p t ht ho => ((hf p h).2 t ht).fits ho, fun p t ht ho => ((hf p h).2 t ht).boot ho⟩, fun p => (hf p h).1⟩


end Keeps

end Sys2Proof.Machine

namespace Sys2Proof.Machine

/-! ### Channels in each state (R1, R13) -/

theorem ChannelOk.not_halted {ch : Channel} (h : ChannelOk ch) (hs : ch.state ≠ .halted) :
    ch.haltReason = none ∧ ch.heldPassEnd = false := by
  have hr : ch.haltReason = none := by
    by_contra hne
    exact hs (h.halted.mpr hne)
  refine ⟨hr, ?_⟩
  cases hh : ch.heldPassEnd with
  | false => rfl
  | true => have := h.held hh; rw [hr] at this; cases this

/-- A channel that is RUNNING is consistent if it is not held. -/
theorem channelOk_of_running {ch : Channel} (hs : ch.state = .running) (hr : ch.haltReason = none)
    (hh : ch.heldPassEnd = false) : ChannelOk ch := by
  constructor <;> simp [hs, hr, hh]

/-- A channel that is OFF or PACED is consistent if it has no head and is not held. -/
theorem channelOk_of_resting {ch : Channel} (hs : ch.state = .off ∨ ch.state = .paced) (hd : ch.head = .none)
    (hr : ch.haltReason = none) (hh : ch.heldPassEnd = false) : ChannelOk ch := by
  rcases hs with hs | hs <;> constructor <;> simp [hs, hd, hr, hh]

/-- A HALTED channel is consistent if it has no head, and holds a pass end only with a watch hold. -/
theorem channelOk_of_halted {ch : Channel} (hs : ch.state = .halted) (hd : ch.head = .none) (hr : ch.haltReason ≠ none)
    (hh : ch.heldPassEnd = true → ch.haltReason = some .watchHold) : ChannelOk ch := by
  constructor <;> simp_all

/-- While a channel is RUNNING its head may change freely. -/
theorem ChannelOk.running_head {ch : Channel} (h : ChannelOk ch) (hs : ch.state = .running) {ch' : Channel}
    (hs' : ch'.state = ch.state) (hr : ch'.haltReason = ch.haltReason) (hh : ch'.heldPassEnd = ch.heldPassEnd) :
    ChannelOk ch' := by
  obtain ⟨h1, h2⟩ := h.not_halted (by rw [hs]; decide)
  exact channelOk_of_running (hs'.trans hs) (hr.trans h1) (hh.trans h2)

/-! ### What the steps of a head leave of its channel -/

@[simp] theorem setChannel_setChannel (s : State) (c : ChannelIx) (a b : Channel) :
    (s.setChannel c a).setChannel c b = s.setChannel c b := by
  simp [State.setChannel]

@[simp] theorem storeRecord_channel (s : State) (c : ChannelIx) (r : Record) :
    (s.storeRecord c r).channel c =
      { s.channel c with lastResult := some r, head := .none, pauseTimer := none, arriving := none } :=
  setChannel_channel_same s c _

@[simp] theorem countFailure_channel (s : State) (c : ChannelIx) :
    (s.countFailure c).channel c = { s.channel c with failureCount := saturate (s.channel c).failureCount } :=
  setChannel_channel_same s c _

@[simp] theorem claimDescFailed_channel (s : State) (c : ChannelIx) (r : Record) (k : ChannelIx) :
    (s.claimDescFailed c r).channel k = s.channel k :=
  claimIf_channel s _ _ k

/-- A finished head moves position and counts of its channel alone (R20). -/
theorem finishHead_channel (s : State) (c : ChannelIx) :
    ∃ position done passes, (s.finishHead c).channel c =
      { s.channel c with position := position, doneInPass := done, passCount := passes } := by
  unfold State.finishHead State.endPass
  dsimp only
  split
  · simp only [claimIf_channel, setChannel_channel_same]
    exact ⟨_, _, _, rfl⟩
  · simp only [claimIf_channel, setChannel_channel_same]
    exact ⟨_, _, _, rfl⟩

theorem finishHead_state (s : State) (c : ChannelIx) : ((s.finishHead c).channel c).state = (s.channel c).state := by
  obtain ⟨_, _, _, h⟩ := finishHead_channel s c
  rw [h]

namespace Keeps

/-! ### Claims -/

theorem claim (s : State) (k : NoticeKind) : Keeps s (s.claim k) := out (claim_keeps_notices k)

theorem claimIf (s : State) (b : Bool) (k : NoticeKind) : Keeps s (s.claimIf b k) := by
  cases b
  · exact refl s
  · exact claim s k

/-! ### Grant occasions and changes of port state -/

theorem raiseOccasionIfIdle (s : State) (p : Port) : Keeps s (s.raiseOccasionIfIdle p) := by
  obtain ⟨arb, h⟩ := raiseOccasionIfIdle_touches s p
  rw [h]
  exact arbiters s arb

/-! ### The service of a head (R15 to R23) -/

theorem storeRecord {s : State} {c : ChannelIx} (hs : (s.channel c).state = .running) (r : Record) :
    Keeps s (s.storeRecord c r) :=
  setChannel rfl fun h => h.running_head hs rfl rfl rfl

theorem countFailure (s : State) (c : ChannelIx) : Keeps s (s.countFailure c) :=
  setChannel rfl fun h => ⟨h.quiet, h.stopping, h.halted, h.held⟩

theorem claimDescFailed (s : State) (c : ChannelIx) (r : Record) : Keeps s (s.claimDescFailed c r) := claimIf s _ _

theorem haltChannel {s : State} {c : ChannelIx} (hs : (s.channel c).state = .running)
    (hd : (s.channel c).head = .none) (r : Record) : Keeps s (s.haltChannel c r) := by
  refine ofSetChannel (claim _ _) rfl fun h => ?_
  have := (h.not_halted (by rw [hs]; decide)).2
  exact channelOk_of_halted rfl hd (by simp) (by simp [this])

theorem endPass (s : State) (c : ChannelIx) : Keeps s (s.endPass c) :=
  ofSetChannel (claimIf _ _ _) rfl fun h => ⟨h.quiet, h.stopping, h.halted, h.held⟩

theorem finishHead (s : State) (c : ChannelIx) : Keeps s (s.finishHead c) := by
  unfold State.finishHead
  dsimp only
  generalize hs1 : s.setChannel c _ = s1
  have h1 : Keeps s s1 := hs1 ▸ setChannel rfl fun h => ⟨h.quiet, h.stopping, h.halted, h.held⟩
  split
  · exact h1.trans ((claimIf _ _ _).trans (endPass _ c))
  · exact h1.trans (claimIf _ _ _)

theorem afterPass {s : State} {c : ChannelIx} (hs : (s.channel c).state = .running) : Keeps s (s.afterPass c) := by
  unfold State.afterPass
  dsimp only
  split
  all_goals
    refine setChannel rfl fun h => ?_
    obtain ⟨hr, hh⟩ := h.not_halted (by rw [hs]; decide)
  · exact channelOk_of_resting (.inl rfl) rfl hr hh
  · exact channelOk_of_resting (.inr rfl) rfl hr hh
  · exact channelOk_of_running rfl hr hh

theorem offerHead {s : State} {c : ChannelIx} (hs : (s.channel c).state = .running) (p : Port) :
    Keeps s (s.offerHead c p) := by
  unfold State.offerHead
  split
  · exact refl s
  · exact ofSetChannel (raiseOccasionIfIdle _ p) rfl fun h => h.running_head hs rfl rfl rfl

/-- The evaluation of the head of a RUNNING channel, through every head that fails at once under SKIP. -/
theorem evaluateHead (inTick : Bool) (c : ChannelIx) (fuel : Nat) {s : State} (hs : (s.channel c).state = .running) :
    Keeps s (evaluateHead inTick c fuel s) := by
  induction fuel generalizing s with
  | zero => exact refl s
  | succ fuel ih =>
    unfold Machine.evaluateHead
    split
    · exact refl s
    · split
      · exact setChannel rfl fun h => h.running_head hs rfl rfl rfl
      · exact setChannel rfl fun h => h.running_head hs rfl rfl rfl
      · exact offerHead hs _
      · next r _ =>
        have h1 := (storeRecord hs { result := r, moved := 0, attempts := 0 }).trans (countFailure _ c)
        dsimp only
        split
        · exact h1.trans (haltChannel (by simpa using hs) (by simp) _)
        · have h2 := h1.trans ((claimDescFailed _ c { result := r, moved := 0, attempts := 0 }).trans (finishHead _ c))
          have hrun := finishHead_state (((s.storeRecord c { result := r, moved := 0, attempts := 0 }).countFailure
            c).claimDescFailed c { result := r, moved := 0, attempts := 0 }) c
          simp only [claimDescFailed_channel, countFailure_channel, storeRecord_channel, hs] at hrun
          split
          · exact h2.trans (afterPass hrun)
          · exact h2.trans (ih hrun)

theorem serveHead {s : State} {c : ChannelIx} (hs : (s.channel c).state = .running) (inTick : Bool) :
    Keeps s (s.serveHead inTick c) := evaluateHead inTick c _ hs

/-- A pass may begin on any channel that is not HALTED. -/
theorem beginPass {s : State} {c : ChannelIx} (hs : (s.channel c).state ≠ .halted) (inTick : Bool) :
    Keeps s (s.beginPass inTick c) := by
  refine ofSetChannel (serveHead ?_ inTick) rfl fun h => ?_
  · rw [setChannel_channel_same]
  obtain ⟨hr, hh⟩ := h.not_halted hs
  exact channelOk_of_running rfl hr hh

theorem finishAndGoOn {s : State} {c : ChannelIx} (hs : (s.channel c).state = .running) (inTick : Bool) :
    Keeps s (s.finishAndGoOn inTick c) := by
  have hrun := (finishHead_state s c).trans hs
  unfold State.finishAndGoOn
  dsimp only
  split
  · exact (finishHead s c).trans (afterPass hrun)
  · exact (finishHead s c).trans (serveHead hrun inTick)

theorem holdChannel {s : State} {c : ChannelIx} (hd : (s.channel c).head = .none) : Keeps s (s.holdChannel c) := by
  refine (finishHead s c).trans (setChannel rfl fun _ => channelOk_of_halted rfl ?_ (by simp) fun _ => rfl)
  obtain ⟨_, _, _, h⟩ := finishHead_channel s c
  rw [h]
  exact hd

theorem takeRunning {s : State} {c : ChannelIx} (hs : (s.channel c).state = .running) (inTick : Bool) (r : Record)
    (o : Option WatchOutcome) : Keeps s (s.takeRunning inTick c r o) := by
  have h := storeRecord hs r
  unfold State.takeRunning
  dsimp only
  split
  · split
    · exact h.trans (holdChannel (by simp))
    · exact h.trans (finishAndGoOn (by simpa using hs) inTick)
  · have h1 := h.trans (countFailure _ c)
    split
    · exact h1.trans (haltChannel (by simpa using hs) (by simp) r)
    · exact h1.trans ((claimDescFailed _ c r).trans (finishAndGoOn (by simpa using hs) inTick))

theorem takeStopping {s : State} {c : ChannelIx} (hs : (s.channel c).state = .stopping) (r : Record) :
    Keeps s (s.takeStopping c r) := by
  have h : Keeps s ((s.storeRecord c r).setChannel c { (s.storeRecord c r).channel c with state := .off }) := by
    rw [storeRecord_channel, State.storeRecord, setChannel_setChannel]
    refine setChannel rfl fun h => ?_
    obtain ⟨hr, hh⟩ := h.not_halted (by rw [hs]; decide)
    exact channelOk_of_resting (.inl rfl) rfl hr hh
  unfold State.takeStopping
  dsimp only
  split
  · exact h
  · exact h.trans ((countFailure _ c).trans (claimDescFailed _ c r))

theorem onPauseExpiry (s : State) (c : ChannelIx) : Keeps s (s.onPauseExpiry c) := by
  unfold State.onPauseExpiry
  split
  · next h =>
    simp only [Channel.pauseDue, Bool.and_eq_true, beq_iff_eq] at h
    exact takeRunning h.1.1 true _ _
  · exact refl s

theorem onPassGapEnd (s : State) (c : ChannelIx) : Keeps s (s.onPassGapEnd c) := by
  unfold State.onPassGapEnd
  split
  · next h =>
    simp only [Channel.passGapDue, Bool.and_eq_true, beq_iff_eq] at h
    exact beginPass (by rw [h.1.1]; decide) true
  · exact refl s

theorem onChannelCompletion (s : State) (c : ChannelIx) : Keeps s (s.onChannelCompletion c) := by
  unfold State.onChannelCompletion
  split
  · exact refl s
  · split
    · next h => exact takeRunning h false _ _
    · next h => exact takeStopping h _
    · exact refl s
    · exact refl s
    · exact refl s

/-! ### Tickets (R63 to R70) -/

theorem modifyTicket (s : State) (n : Nat) {f : Ticket → Ticket} (hn : ∀ t, (f t).number = t.number)
    (ht : ∀ t, (f t).transfer = t.transfer) : Keeps s (s.modifyTicket n f) := by
  refine ofTickets ?_ fun t hm => ?_
  · rw [modifyFirst_map _ _ _ hn]
  · rcases mem_modifyFirst hm with h | ⟨u, hu, _, rfl⟩
    · exact ⟨t, h, rfl⟩
    · exact ⟨u, hu, ht u⟩

theorem dropTicket (s : State) (n : Nat) : Keeps s (s.dropTicket n) :=
  ofTickets (List.eraseP_sublist.map _) fun t hm => ⟨t, List.mem_of_mem_eraseP hm, rfl⟩

theorem completeTicket (s : State) (n : Nat) (r : Record) : Keeps s (s.completeTicket n r) :=
  (dropTicket s n).trans (claim _ _)

theorem evaluateTicket (s : State) (n : Nat) : Keeps s (s.evaluateTicket n) := by
  unfold State.evaluateTicket
  split
  · exact refl s
  · split
    · exact refl s
    · split
      · exact completeTicket s n _
      · exact modifyTicket s n (fun _ => rfl) (fun _ => rfl)
      · split
        · exact refl s
        · exact (modifyTicket s n (by exact fun _ => rfl) (by exact fun _ => rfl)).trans (raiseOccasionIfIdle _ _)
      · exact refl s

/-- A ticket joins a queue with room, with a number of its own (R64, R66). -/
theorem createTicket {s : State} {t : Transfer} (hroom : s.tickets.length < Config.ticketMax) (ht : t.Fits) :
    Keeps s (s.createTicket t) where
  pool h := ⟨h.total, h.rings⟩
  tickets h := by
    have hfresh := freshNumber_not_mem (used := s.tickets.map (·.number)) s.nextTicket
      (by simp only [List.length_map, Config.ticketMax] at *; omega)
    refine ⟨by simp only [State.createTicket, List.length_append, List.length_singleton]; omega, ?_⟩
    simp only [State.createTicket, List.map_append, List.map_cons, List.map_nil]
    exact List.nodup_append.mpr ⟨h.distinct, List.nodup_singleton _, by
      intro a ha b hb hab
      rw [List.mem_singleton.mp hb] at hab
      subst hab
      exact hfresh ha⟩
  targets h := ⟨h.each, h.distinct⟩
  pacers := id
  notices := id
  channels := id
  replay := id
  engines := id
  busy := id
  buses h := ⟨⟨h.staging.canonical, h.staging.below, h.staging.rings,
    fun u hm => by
      rcases List.mem_append.mp hm with hm | hm
      · exact h.staging.tickets u hm
      · rw [List.mem_singleton.mp hm]; exact ht,
    h.staging.transactions, h.staging.boot⟩, h.flights⟩

theorem onTicketCompletion (s : State) (n : Nat) : Keeps s (s.onTicketCompletion n) := by
  unfold State.onTicketCompletion
  split
  · exact refl s
  · exact completeTicket s n _

/-! ### Announcements (R39, R107) -/

theorem reevaluateParty (sel : Transfer → Bool) (s : State) (party : Party) :
    Keeps s (reevaluateParty sel s party) := by
  unfold Machine.reevaluateParty
  split
  · dsimp only
    split
    · next h => exact serveHead h.1 false
    · exact refl s
  · split
    · exact evaluateTicket s _
    · exact refl s

theorem reevaluate (s : State) (sel : Transfer → Bool) (order : List Party) : Keeps s (s.reevaluate sel order) :=
  foldl (reevaluateParty sel) _ s

theorem onSlotAnnouncement (s : State) (n : SlotIx) (order : List Party) : Keeps s (s.onSlotAnnouncement n order) := by
  unfold State.onSlotAnnouncement
  split
  · exact (slotNews s _).trans (reevaluate _ _ order)
  · exact refl s

theorem hearAnnouncement (s : State) (p : Port) (order : List Party) (left : List PortState) :
    Keeps s (s.hearAnnouncement p order left) :=
  (portNews s _).trans (reevaluate _ _ order)

theorem onPortAnnouncement (s : State) (p : Port) (order : List Party) : Keeps s (s.onPortAnnouncement p order) := by
  unfold State.onPortAnnouncement
  split
  · exact refl s
  · exact hearAnnouncement s p order _

theorem hearPort (s : State) (p : Port) : Keeps s (s.hearPort p) := by
  unfold State.hearPort
  split
  · exact refl s
  · exact hearAnnouncement s p [] []

/-! ### Pacers (R126 to R133) -/

theorem overrun (s : State) (c : ChannelIx) : Keeps s (s.overrun c) :=
  ofSetChannel (claimIf _ _ _) rfl fun h => ⟨h.quiet, h.stopping, h.halted, h.held⟩

theorem expiryAt (s : State) (c : ChannelIx) : Keeps s (s.expiryAt c) := by
  unfold State.expiryAt
  split
  · exact refl s
  · next h => exact beginPass (by rw [h]; decide) true
  · exact overrun s c
  · exact overrun s c
  · exact overrun s c

end Keeps

end Sys2Proof.Machine

namespace Sys2Proof.Machine

/-! ### Pacers (R126, R128 to R132) -/

/-- A pacer that is set while STOPPED, to a period of two bytes that is not 0 (R128). -/
theorem PacerOk.configure {pc : Pacer} (h : PacerOk pc) (hr : pc.running = false) {period : Nat} (mode : PacerMode)
    (hp : 1 ≤ period ∧ period ≤ 65535) : PacerOk { pc with period := period, mode := mode } :=
  ⟨hp, fun hn => absurd hn (by simp [hr]), h.stopped⟩

theorem PacerOk.start {pc : Pacer} (h : PacerOk pc) : PacerOk pc.start := by
  have hp := h.period
  refine ⟨hp, fun _ => ?_, fun hn => absurd hn (by simp [Pacer.start])⟩
  simp only [Pacer.start, intervalTicks, Bool.false_eq_true, if_false]
  omega

theorem PacerOk.stop {pc : Pacer} (h : PacerOk pc) : PacerOk pc.stop :=
  ⟨h.period, fun hn => absurd hn (by simp [Pacer.stop]), fun _ => ⟨rfl, rfl⟩⟩

/-- An expiry reloads the time remaining of a REPEAT pacer and stops a SINGLE one (R132). -/
theorem PacerOk.expire {pc : Pacer} (h : PacerOk pc) (hr : pc.running = true) : PacerOk pc.expire := by
  have hp := h.period
  unfold Pacer.expire
  dsimp only
  split
  · refine ⟨hp, fun _ => ?_, fun hn => absurd hn (by simp [hr])⟩
    simp only [intervalTicks, if_true]
    omega
  · exact ⟨hp, fun hn => absurd hn (by simp [Pacer.stop]), fun _ => ⟨rfl, rfl⟩⟩

theorem PacerOk.tick {pc : Pacer} (h : PacerOk pc) : PacerOk pc.tick := by
  unfold Pacer.tick
  split
  · next hr =>
    have := h.running hr
    split
    · exact ⟨h.period, h.running, fun hn => absurd hn (by simp [hr])⟩
    · exact ⟨h.period, fun _ => by dsimp only; omega, fun hn => absurd hn (by simp [hr])⟩
  · exact h

/-! ### Targets (R31 to R38) -/

theorem Definition.valid_threshold {d : Definition} (h : d.valid = true) : 1 ≤ d.fenceThreshold := by
  simp only [Definition.valid, Bool.and_eq_true, decide_eq_true_eq] at h
  exact h.2.1

/-- R34: a MEMORY target has a page size. -/
theorem Definition.valid_pageSize {d : Definition} (h : d.valid = true) (hk : d.kind = .memory) : 1 ≤ d.pageSize := by
  simp only [Definition.valid, Bool.and_eq_true, hk, List.contains_iff_mem, List.mem_cons, List.not_mem_nil,
    or_false] at h
  obtain ⟨⟨⟨⟨⟨_, hp⟩, _⟩, _⟩, _⟩, _⟩ := h
  omega

theorem definitionOf_valid {b : List Byte} {d : Definition} (h : definitionOf b = some d) : d.valid = true := by
  unfold definitionOf at h
  split at h
  · obtain ⟨hv, he⟩ := Option.ite_none_right_eq_some.mp h
    exact Option.some.inj he ▸ hv
  · cases h

/-- A slot newly set is ONLINE with count 0 (R34). -/
theorem targetOk_of_online {d : Definition} (hv : d.valid = true) {t : Target} (hd : t.defn = d)
    (hs : t.standing = .online) (hc : t.count = 0) : TargetOk t :=
  ⟨hd ▸ hv, by omega, fun _ => hc, fun h => by rw [hs] at h; cases h⟩

theorem TargetOk.fenced {t : Target} (h : TargetOk t) : TargetOk { t with standing := .fenced } :=
  ⟨h.valid, h.bounded, nofun, nofun⟩

@[simp] theorem account_defn (t : Target) (r : Result) : (t.account r).defn = t.defn := by
  unfold Target.account Target.succeed Target.fail
  split
  · split <;> rfl
  · split
    · split <;> rfl
    · rfl

theorem TargetOk.succeed {t : Target} (h : TargetOk t) : TargetOk t.succeed := by
  unfold Target.succeed
  split
  · next hs => exact ⟨h.valid, Nat.zero_le _, fun _ => rfl, fun hn => by rw [hs] at hn; cases hn⟩
  · next hs => exact ⟨h.valid, Nat.zero_le _, fun _ => rfl, fun hn => by rw [hs] at hn; cases hn⟩
  · exact ⟨h.valid, Nat.zero_le _, fun _ => rfl, nofun⟩

/-- A failure counted below the threshold makes a slot SUSPECT, at the threshold FENCED (R38). -/
theorem TargetOk.fail {t : Target} (h : TargetOk t) : TargetOk t.fail := by
  have hb := h.bounded
  have ht := Definition.valid_threshold h.valid
  have counted (hlt : t.count < t.defn.fenceThreshold) : TargetOk
      { t with count := t.count + 1
               standing := if t.defn.fenceThreshold ≤ t.count + 1 then .fenced else .suspect } := by
    split
    · exact ⟨h.valid, hlt, nofun, nofun⟩
    · exact ⟨h.valid, hlt, nofun, fun _ => by dsimp only; omega⟩
  unfold Target.fail
  split
  · next hs =>
    exact ⟨h.valid, by dsimp only; omega, fun hn => absurd (hs.symm.trans hn) nofun,
      fun hn => absurd (hs.symm.trans hn) nofun⟩
  · next hs => exact counted (by have := h.online hs; omega)
  · next hs => exact counted (h.suspect hs).2

theorem TargetOk.account {t : Target} (h : TargetOk t) (r : Result) : TargetOk (t.account r) := by
  unfold Target.account
  split
  · exact h.succeed
  · split
    · exact h.fail
    · exact h

/-- A slot may take a target that shares port and bus address with that of no other slot (R35). -/
theorem TargetsOk.setSlot {s : State} (h : TargetsOk s) {n : SlotIx} {sl : Slot}
    (ht : ∀ t, sl.target = some t → TargetOk t)
    (hd : ∀ t m u, sl.target = some t → m ≠ n → (s.slot m).target = some u →
      ¬(t.defn.port = u.defn.port ∧ t.defn.address = u.defn.address)) : TargetsOk (s.setSlot n sl) where
  each k t hk := by
    rw [setSlot_slot] at hk
    split at hk
    · exact ht t hk
    · exact h.each k t hk
  distinct k m t u hne hk hm := by
    rw [setSlot_slot] at hk hm
    split at hk <;> split at hm
    · next h1 h2 => exact absurd (h1.trans h2.symm) hne
    · next h1 h2 => exact hd t m u hk h2 hm
    · next h1 h2 => exact fun ⟨hp, ha⟩ => hd u k t hm h1 hk ⟨hp.symm, ha.symm⟩
    · exact h.distinct k m t u hne hk hm

/-- A slot may change otherwise than in its definition. -/
theorem TargetsOk.setSlot_sameDefinition {s : State} (h : TargetsOk s) {n : SlotIx} {sl : Slot}
    (ht : ∀ t, sl.target = some t → ∃ u, (s.slot n).target = some u ∧ t.defn = u.defn ∧ (TargetOk u → TargetOk t)) :
    TargetsOk (s.setSlot n sl) := by
  refine h.setSlot (fun t hs => ?_) fun t m v hs hm hv => ?_
  · obtain ⟨u, hu, _, hok⟩ := ht t hs
    exact hok (h.each n u hu)
  · obtain ⟨u, hu, hd, _⟩ := ht t hs
    rw [hd]
    exact h.distinct n m u v hm.symm hu hv

/-- A definition that no other slot has by port and bus address (R34 step 3). -/
theorem TargetsOk.setSlot_new {s : State} (h : TargetsOk s) {n : SlotIx} {d : Definition} (hv : d.valid = true)
    (hdup : s.duplicateTarget n d = false) :
    TargetsOk (s.setSlot n { target := some { defn := d, standing := .online, count := 0 }, inFlight := false }) := by
  refine h.setSlot (fun t ht => ?_) fun t m u ht hm hu => ?_
  · obtain rfl := Option.some.inj ht
    exact targetOk_of_online hv rfl rfl rfl
  · obtain rfl := Option.some.inj ht
    rintro ⟨hp, ha⟩
    have hany : s.duplicateTarget n d = true :=
      List.any_eq_true.mpr ⟨m, List.mem_finRange m, by simp [hm, Slot.holds, hu, ← hp, ← ha]⟩
    rw [hany] at hdup
    cases hdup

/-! ### Rings and the pool (R4, R8, R9) -/

/-- The entries that one ring takes more are the entries that all rings take more. -/
theorem ringTotal_setChannel (s : State) (c : ChannelIx) (ch : Channel) :
    (allChannels.map (fun k => ((s.setChannel c ch).channel k).ring.length)).sum + (s.channel c).ring.length
      = (allChannels.map (fun k => (s.channel k).ring.length)).sum + ch.ring.length := by
  simp only [allChannels, setChannel_channel, List.map_cons, List.map_nil, List.sum_cons, List.sum_nil]
  fin_cases c <;> simp <;> omega

namespace Keeps

/-- A ring that takes from the pool what it grows by, of descriptors that fit. -/
theorem ofRing {s : State} {c : ChannelIx} {ch : Channel} {free : Nat}
    (hp : PoolOk s → free + ch.ring.length = s.poolFree + (s.channel c).ring.length ∧ ch.ring.length ≤ Config.ringMax)
    (hc : ChannelOk (s.channel c) → ChannelOk ch) (hf : StagingOk s → ∀ d ∈ ch.ring, d.Fits) :
    Keeps s ({ s with poolFree := free }.setChannel c ch) where
  pool h := by
    obtain ⟨hfree, hmax⟩ := hp h
    have hsum := ringTotal_setChannel { s with poolFree := free } c ch
    have htot := h.total
    refine ⟨?_, fun k => ?_⟩
    · simp only [setChannel_poolFree]
      change _ + (s.channel c).ring.length = (allChannels.map fun k => (s.channel k).ring.length).sum + _ at hsum
      omega
    · rw [setChannel_channel]
      split
      · exact hmax
      · exact h.rings k
  tickets h := ⟨h.room, h.distinct⟩
  targets h := ⟨h.each, h.distinct⟩
  pacers := id
  notices := id
  channels hs k := by
    rw [setChannel_channel]
    split
    · exact hc (hs c)
    · exact hs k
  replay := id
  engines := id
  busy := id
  buses h := ⟨⟨h.staging.canonical, h.staging.below,
    fun k d hd => by
      rw [setChannel_channel] at hd
      split at hd
      · exact hf h.staging d hd
      · exact h.staging.rings k d hd,
    h.staging.tickets, h.staging.transactions, h.staging.boot⟩, h.flights⟩

theorem releaseRing (s : State) (c : ChannelIx) : Keeps s (s.releaseRing c) :=
  ofRing (fun _ => ⟨by simp, by simp⟩) (fun h => ⟨h.quiet, h.stopping, h.halted, h.held⟩)
    fun _ d hd => absurd hd List.not_mem_nil

theorem appendRing {s : State} {c : ChannelIx} {ds : List Descriptor} (hfree : ds.length ≤ s.poolFree)
    (hmax : (s.channel c).ring.length + ds.length ≤ Config.ringMax) (hds : ∀ d ∈ ds, d.Fits) :
    Keeps s (s.appendRing c ds) :=
  ofRing (fun _ => ⟨by simp only [List.length_append]; omega, by simpa using hmax⟩)
    (fun h => ⟨h.quiet, h.stopping, h.halted, h.held⟩) fun h d hd => (List.mem_append.mp hd).elim (h.rings c d) (hds d)

end Keeps

end Sys2Proof.Machine

namespace Sys2Proof.Machine

/-! ### A transaction on its engine (R82 to R86) -/

/-- A byte that the activity is at is one of the n bytes sent, or of the transfer's bytes received. -/
structure Activity.Within (a : Activity) (t : Transaction) (n : Nat) : Prop where
  sent : ∀ k, a = .dataOut k → k < n
  received : ∀ k, a = .dataIn k → k < t.transfer.length

/-- What FlightOk says of a BUSY engine with this transaction. -/
structure Engine.Aboard (e : Engine) (t : Transaction) : Prop where
  segment : t.segmented = true →
    ∃ sg, e.segment = some sg ∧ 1 ≤ sg.length ∧ e.confirmed + sg.length ≤ t.transfer.length
  within : t.owner ≠ .replay → e.activity.Within t (e.dataOutLength t)

theorem FlightOk.aboard {e : Engine} {t : Transaction} (h : FlightOk e) (ht : e.transaction = some t)
    (hb : e.portState = .busy) : e.Aboard t :=
  ⟨h.segment t ht hb, fun ho => ⟨fun k => h.sent t k ht ho hb, fun k => h.received t k ht ho hb⟩⟩

theorem flightOk_of_busy {e : Engine} {t : Transaction} (ht : e.transaction = some t) (hb : e.portState = .busy)
    (hs : t.Sound) (ha : e.Aboard t) : FlightOk e := by
  have huniq : ∀ u, e.transaction = some u → u = t := fun u hu => Option.some.inj (hu.symm.trans ht)
  refine ⟨fun u _ hr => ?_, fun u hu => huniq u hu ▸ hs.page, fun u hu _ => huniq u hu ▸ ha.segment,
    fun u k hu ho _ => ?_, fun u k hu ho _ => ?_⟩
  · rw [hb] at hr; cases hr
  · rw [huniq u hu] at ho ⊢; exact (ha.within ho).sent k
  · rw [huniq u hu] at ho ⊢; exact (ha.within ho).received k

theorem flightOk_of_none {e : Engine} (ht : e.transaction = none) : FlightOk e := by
  constructor <;> simp [ht]

/-- A transaction pending on a recovery has nothing confirmed. -/
theorem flightOk_of_pending {e : Engine} (hp : e.portState = .recovering) (hc : e.confirmed = 0)
    (hs : ∀ t, e.transaction = some t → t.Sound) : FlightOk e :=
  ⟨fun _ _ _ => hc, fun t ht => (hs t ht).page, fun _ _ hb => absurd (hp.symm.trans hb) nofun,
    fun _ _ _ _ hb => absurd (hp.symm.trans hb) nofun, fun _ _ _ _ hb => absurd (hp.symm.trans hb) nofun⟩

/-- R85: a write in segments is a WRITE, which no boot memory read is. -/
theorem Transaction.Sound.fits_of_segmented {t : Transaction} (hs : t.Sound) (hseg : t.segmented = true) :
    t.transfer.Fits := by
  refine hs.fits fun ho => ?_
  simp [Transaction.segmented, hs.boot ho] at hseg

/-- R85: a segment has a byte, and lies within the write, while bytes remain. -/
theorem segmentLength_bounds {t : Transaction} (hs : t.Sound) (hseg : t.segmented = true) {confirmed : Nat}
    (hc : confirmed < t.transfer.length) :
    1 ≤ t.segmentLength confirmed ∧ confirmed + t.segmentLength confirmed ≤ t.transfer.length := by
  have hmod := Nat.mod_lt (t.transfer.offset + confirmed) (hs.page hseg)
  unfold Transaction.segmentLength
  omega

theorem dataOutLength_pos {e : Engine} {t : Transaction} (hs : t.Sound) (ho : t.owner ≠ .replay) (ha : e.Aboard t) :
    0 < e.dataOutLength t := by
  have hl := (hs.fits ho).length
  unfold Engine.dataOutLength
  split
  · next sg hsg =>
    split
    · next hseg =>
      obtain ⟨sg', hsg', h1, _⟩ := ha.segment hseg
      obtain rfl := Option.some.inj (hsg.symm.trans hsg')
      exact h1
    · exact hl
  · exact hl

/-! ### The procedure goes on (R82 to R93) -/

/-- e' goes on where e was with transaction t: the port keeps its state, its transaction and its recovery, it has an activity,
and it is at a byte of the transfer. -/
structure Engine.GoesOn (e e' : Engine) (t : Transaction) : Prop where
  portState : e'.portState = e.portState
  transaction : e'.transaction = e.transaction
  recovery : e'.recovery = e.recovery
  active : e.activity ≠ .none → e'.activity ≠ .none
  aboard : t.Sound → e.Aboard t → e'.Aboard t

namespace Engine.GoesOn

theorem refl (e : Engine) (t : Transaction) : e.GoesOn e t := ⟨rfl, rfl, rfl, id, fun _ => id⟩

theorem trans {e e' e'' : Engine} {t : Transaction} (h : e.GoesOn e' t) (k : e'.GoesOn e'' t) : e.GoesOn e'' t :=
  ⟨k.portState.trans h.portState, k.transaction.trans h.transaction, k.recovery.trans h.recovery, k.active ∘ h.active,
    fun hs ha => k.aboard hs (h.aboard hs ha)⟩

/-- Timers, counts of the attempt, scratch area and abort flag may change freely. -/
theorem unread (e : Engine) (t : Transaction) (attempts moved : Nat) (scratch : List Byte) (abort expired : Bool)
    (wait stretch cycle : Option Nat) :
    e.GoesOn { e with
      attempts := attempts, moved := moved, scratch := scratch, abortRequested := abort, cycleExpired := expired
      waitTimer := wait, stretchTimer := stretch, cycleTimer := cycle } t :=
  ⟨rfl, rfl, rfl, id, fun _ h => ⟨h.segment, h.within⟩⟩

theorem turnTo {e : Engine} {t : Transaction} {a : Activity} (hn : a ≠ .none)
    (hw : t.Sound → e.Aboard t → t.owner ≠ .replay → a.Within t (e.dataOutLength t)) : e.GoesOn (e.turnTo a) t :=
  ⟨rfl, rfl, rfl, fun _ => hn, fun hs ha => ⟨ha.segment, hw hs ha⟩⟩

/-- After an abort request the bus is closed, else the procedure turns to its next step (R93). -/
theorem unlessAborted {e : Engine} {t : Transaction} {a : Activity} (hn : a ≠ .none)
    (hw : t.Sound → e.Aboard t → t.owner ≠ .replay → a.Within t (e.dataOutLength t)) :
    e.GoesOn (e.unlessAborted a) t := by
  unfold Engine.unlessAborted
  split
  · exact turnTo nofun fun _ _ _ => ⟨nofun, nofun⟩
  · exact turnTo hn hw

theorem closeOnNak (e : Engine) (t : Transaction) (r : Result) : e.GoesOn (e.closeOnNak r) t :=
  turnTo nofun fun _ _ _ => ⟨nofun, nofun⟩

theorem startBegun (e : Engine) (t : Transaction) : e.GoesOn e.startBegun t := by
  refine ⟨rfl, rfl, rfl, fun h => ?_, fun _ ha => ⟨ha.segment, fun ho => ?_⟩⟩
  · unfold Engine.startBegun
    dsimp only
    split
    · nofun
    · split
      · nofun
      · exact h
  · unfold Engine.startBegun
    dsimp only
    split
    · exact ⟨nofun, nofun⟩
    · split
      · exact ⟨nofun, nofun⟩
      · exact ha.within ho

theorem found (e : Engine) (t : Transaction) (b : Bool) : e.GoesOn (e.found b) t := by
  cases b
  · exact refl e t
  · exact startBegun e t

theorem gather (e : Engine) (t : Transaction) (k : Nat) (data : Byte) : e.GoesOn (e.gather t k data) t := by
  unfold Engine.gather
  split
  · exact unread e t _ _ _ _ _ _ _ _
  · exact refl e t
  · exact refl e t

/-- A byte with its acknowledge bit (R76, R82 to R86, R93). -/
theorem byteClocked (e : Engine) (t : Transaction) (data : Byte) (ack : Bool) :
    e.GoesOn (e.byteClocked t data ack) t := by
  unfold Engine.byteClocked
  split
  · next read again _ =>
    split
    · refine unlessAborted ?_ fun hs ha ho => ?_
      · unfold Transaction.afterAddress
        split
        · nofun
        · split <;> nofun
      · have hl := (hs.fits ho).length
        have hp := dataOutLength_pos hs ho ha
        unfold Transaction.afterAddress
        split
        · exact ⟨nofun, fun k hk => by cases hk; omega⟩
        · split
          · exact ⟨nofun, nofun⟩
          · exact ⟨fun k hk => by cases hk; exact hp, nofun⟩
    · exact closeOnNak e t _
  · next k _ =>
    split
    · refine unlessAborted ?_ fun hs ha ho => ?_
      · unfold Transaction.afterOffset
        split
        · nofun
        · split <;> nofun
      · have hp := dataOutLength_pos hs ho ha
        unfold Transaction.afterOffset
        split
        · exact ⟨nofun, nofun⟩
        · split
          · exact ⟨nofun, nofun⟩
          · exact ⟨fun k hk => by cases hk; exact hp, nofun⟩
    · exact closeOnNak e t _
  · next k _ =>
    split
    · refine (unread e t _ (e.moved + 1) _ _ _ _ _ _).trans (unlessAborted ?_ fun _ _ _ => ?_)
      · unfold Transaction.afterDataOut
        split <;> nofun
      · unfold Transaction.afterDataOut
        split
        · next hk => exact ⟨fun j hj => by cases hj; exact hk, nofun⟩
        · exact ⟨nofun, nofun⟩
    · exact closeOnNak e t _
  · next k _ =>
    refine ((unread e t _ (e.moved + 1) _ _ _ _ _ _).trans (gather _ t k data)).trans (turnTo ?_ fun _ _ _ => ?_)
    · unfold Engine.afterDataIn
      split
      · nofun
      · split <;> nofun
    · unfold Engine.afterDataIn
      split
      · exact ⟨nofun, nofun⟩
      · next hk =>
        split
        · exact ⟨nofun, nofun⟩
        · exact ⟨nofun, fun j hj => by cases hj; omega⟩
  · exact turnTo nofun fun _ _ _ => ⟨nofun, nofun⟩
  all_goals exact refl e t

theorem beginAttempt (e : Engine) (t : Transaction) : e.GoesOn e.beginAttempt t :=
  (unread e t (e.attempts + 1) 0 _ _ _ _ _ _).trans (turnTo nofun fun _ _ _ => ⟨nofun, nofun⟩)

theorem beginPolling (e : Engine) (t : Transaction) : e.GoesOn (e.beginPolling t) t :=
  (unread e t _ _ _ _ false _ _ (some (intervalTicks false t.defn.cycleLimit))).trans
    (turnTo nofun fun _ _ _ => ⟨nofun, nofun⟩)

/-- The next segment of a write that has bytes to come (R85). -/
theorem nextSegment {e : Engine} {t : Transaction} (h : e.confirmSegment.confirmed < t.transfer.length) :
    e.GoesOn (e.confirmSegment.nextSegment t) t := by
  refine ⟨rfl, rfl, rfl, fun _ => nofun, fun hs _ => ⟨fun hseg => ?_, fun _ => ⟨nofun, nofun⟩⟩⟩
  obtain ⟨h1, h2⟩ := segmentLength_bounds hs hseg h
  exact ⟨_, rfl, h1, h2⟩

end Engine.GoesOn

/-- What a bus event makes of the engine: the procedure goes on with its transaction, or the transaction ends in an engine
whose recovery is as it was. -/
def Progress.From (e : Engine) (t : Transaction) : Progress → Prop
  | .goesOn e' => e.GoesOn e' t
  | .ends e' _ _ => e'.recovery = e.recovery

theorem Progress.From.of_goesOn {e e' : Engine} {t : Transaction} {pr : Progress} (h : e.GoesOn e' t)
    (k : pr.From e' t) : pr.From e t := by
  cases pr with
  | goesOn e'' => exact h.trans k
  | ends e'' r course => exact (show e''.recovery = e'.recovery from k).trans h.recovery

theorem retryOrEnd_from (e : Engine) (t : Transaction) (r : Result) : (e.retryOrEnd t r).From e t := by
  unfold Engine.retryOrEnd
  split
  · exact (Engine.GoesOn.turnTo (a := .retryGap) nofun fun _ _ _ => ⟨nofun, nofun⟩).trans (.unread _ t _ _ _ _ _ _ _ _)
  · exact rfl

theorem stopFormed_from (e : Engine) (t : Transaction) (c : Closing) : (e.stopFormed t c).From e t := by
  unfold Engine.stopFormed
  split
  · exact rfl
  · split
    · exact rfl
    · exact .beginPolling e t
  · split
    · exact rfl
    · exact retryOrEnd_from e t _
  · exact rfl

theorem conditionFormed_from (e : Engine) (t : Transaction) (lines : Lines) : (e.conditionFormed t lines).From e t := by
  unfold Engine.conditionFormed
  split
  · exact .unlessAborted nofun fun _ _ _ => ⟨nofun, nofun⟩
  · exact .unlessAborted nofun fun _ _ _ => ⟨nofun, nofun⟩
  · exact .unlessAborted nofun fun _ _ _ => ⟨nofun, nofun⟩
  · exact .turnTo nofun fun _ _ _ => ⟨nofun, nofun⟩
  · exact .turnTo nofun fun _ _ _ => ⟨nofun, nofun⟩
  · exact stopFormed_from e t _
  · exact rfl
  all_goals exact .refl e t

theorem pollAnswered_from (e : Engine) (t : Transaction) (ack : Bool) : (e.pollAnswered t ack).From e t := by
  unfold Engine.pollAnswered
  split
  · dsimp only
    split
    · exact rfl
    · next hmore =>
      split
      · exact rfl
      · exact .nextSegment (by omega)
  · split
    · exact rfl
    · split
      · exact rfl
      · exact .turnTo nofun fun _ _ _ => ⟨nofun, nofun⟩

theorem cycleLimitOut_from (e : Engine) (t : Transaction) : e.cycleLimitOut.From e t := by
  unfold Engine.cycleLimitOut
  split
  · exact rfl
  · exact .unread e t _ _ _ _ true _ _ none

theorem takeAbort_from (e : Engine) (t : Transaction) : e.takeAbort.From e t := by
  unfold Engine.takeAbort
  split
  · exact rfl
  · exact .unread e t _ _ _ true _ _ _ _

end Sys2Proof.Machine

namespace Sys2Proof.Machine

/-! ### The ports' state (R73, R74, R100) -/

theorem EngineOk.recovery_none {e : Engine} (h : EngineOk e) (hp : e.portState ≠ .recovering) : e.recovery = none := by
  by_contra hne
  exact hp (h.recovering.mpr hne)

theorem EngineOk.transaction_none {e : Engine} (h : EngineOk e) (hb : e.portState ≠ .busy)
    (hr : e.portState ≠ .recovering) : e.transaction = none := by
  refine h.free ?_
  cases hp : e.portState
  · exact .inr (.inr rfl)
  · exact .inl rfl
  · exact absurd hp hb
  · exact absurd hp hr
  · exact .inr (.inl rfl)

theorem engineOk_of_busy {e : Engine} (hp : e.portState = .busy) (ht : e.transaction ≠ none) (ha : e.activity ≠ .none)
    (hr : e.recovery = none) : EngineOk e := by
  constructor <;> simp_all

theorem engineOk_of_recovering {e : Engine} (hp : e.portState = .recovering) (hr : e.recovery ≠ none) : EngineOk e := by
  constructor <;> simp_all

theorem engineOk_of_free {e : Engine} (hb : e.portState ≠ .busy) (hp : e.portState ≠ .recovering)
    (ht : e.transaction = none) (hr : e.recovery = none) : EngineOk e := by
  constructor <;> simp_all

/-- A transaction begins only from nothing confirmed, with its first segment (R81, R85). -/
theorem aboard_beginFirstAttempt {e : Engine} {t : Transaction} (hs : t.Sound) (hc : e.confirmed = 0) :
    (e.beginFirstAttempt t).Aboard t := by
  refine ⟨fun hseg => ?_, fun _ => ⟨nofun, nofun⟩⟩
  obtain ⟨h1, h2⟩ := segmentLength_bounds hs hseg (hs.fits_of_segmented hseg).length
  refine ⟨t.segmentAt 0 1, if_pos hseg, h1, ?_⟩
  show e.confirmed + t.segmentLength 0 ≤ t.transfer.length
  omega

/-- An engine that makes its first attempt. -/
theorem flightOk_beginFirstAttempt {e : Engine} {t : Transaction} (ht : e.transaction = some t) (hb : e.portState = .busy)
    (hs : t.Sound) (hc : e.confirmed = 0) : FlightOk (e.beginFirstAttempt t) :=
  flightOk_of_busy ht hb hs (aboard_beginFirstAttempt hs hc)

/-! ### Updates of an engine that come one after another -/

@[simp] theorem PerPort.set_set {α : Type} (v : PerPort α) (p : Port) (x y : α) : (v.set p x).set p y = v.set p y := by
  cases p <;> rfl

theorem setEngine_setEngine (s : State) (p : Port) (e e' : Engine) :
    (s.setEngine p e).setEngine p e' = s.setEngine p e' := by
  simp [State.setEngine]

/-- An engine that is set after its port has changed its state. -/
theorem enterPortState_setEngine (s : State) (p : Port) (e e' : Engine) (st : PortState) :
    ∃ news arb, ((s.setEngine p e).enterPortState p st).setEngine p e' =
      { s.setEngine p e' with portNews := news, arbiters := arb } := by
  obtain ⟨news, arb, h⟩ := enterPortState_touches (s.setEngine p e) p st
  exact ⟨news, arb, by rw [h]; simp [State.setEngine]⟩

/-- The end of a transaction puts the port's engine at what its own argument says (R97). -/
theorem endTransaction_setEngine (s : State) (p : Port) (e' e : Engine) (t : Transaction) (r : Result)
    (course : Course) (inTick : Bool) :
    (s.setEngine p e').endTransaction p e t r course inTick = s.endTransaction p e t r course inTick := by
  have hw : ((s.setEngine p e').settleWatch e t r).setEngine p (e.countCompletion r)
      = (s.settleWatch e t r).setEngine p (e.countCompletion r) := by
    have hset : (s.setEngine p e').settleWatch e t r = (s.settleWatch e t r).setEngine p e' := by
      unfold State.settleWatch
      split
      · split
        · simp only [claimIf_eq]; rfl
        · rfl
      · rfl
      · rfl
    rw [hset, setEngine_setEngine]
  unfold State.endTransaction
  rw [hw]
  rfl

/-- The end of a transaction leaves the busy ranges but the port's own, which it may release (R52, R97 step 3). -/
theorem endTransaction_busy (s : State) (p : Port) (e : Engine) (t : Transaction) (r : Result) (course : Course)
    (inTick : Bool) :
    (s.endTransaction p e t r course inTick).busy = s.busy
    ∨ (s.endTransaction p e t r course inTick).busy = s.busy.set p none := by
  obtain ⟨st, out, hw⟩ := settleWatch_touches s e t r
  unfold State.endTransaction
  rw [hw]
  dsimp only
  generalize hs3 : State.setArbiter _ p _ = s3
  obtain ⟨news, arb, hc⟩ := takeCourse_touches s3 p course inTick
  rw [hc]
  subst hs3
  simp only [setArbiter_busy, setEngine_busy]
  unfold State.passRecord
  split
  · exact .inl rfl
  all_goals
    obtain ⟨arb', hr⟩ := releaseRange_touches
      (({ s with staging := st, out := out } : State).setEngine p (e.countCompletion r)) p
    dsimp only
    rw [hr]
    exact .inr rfl

theorem BusyOk.set_none {s : State} (h : BusyOk s) (p : Port) : BusyOk { s with busy := s.busy.set p none } := by
  intro q1 q2 r1 r2 hne ha hb
  rw [PerPort.get_set] at ha hb
  split at ha
  · cases ha
  · split at hb
    · cases hb
    · exact h q1 q2 r1 r2 hne ha hb

theorem conflicts_comm (r q : BusyRange) : r.conflicts q = q.conflicts r := by
  unfold BusyRange.conflicts BusyRange.overlaps
  rw [Bool.and_comm (decide _), Bool.or_comm]

/-- A range granted conflicts with none in the list (R50, R59). -/
theorem BusyOk.set_eligible {s : State} (h : BusyOk s) (p : Port) {t : Transfer} (ht : s.eligible t = true) :
    BusyOk { s with busy := s.busy.set p (some t.busyRange) } := by
  have hfree : ∀ q r, s.busy.get q = some r → t.busyRange.conflicts r = false := by
    intro q r hr
    have hm : r ∈ s.busyList := List.mem_filterMap.mpr ⟨q, by cases q <;> simp [allPorts], hr⟩
    simpa using List.all_eq_true.mp ht r hm
  intro q1 q2 r1 r2 hne ha hb
  rw [PerPort.get_set] at ha hb
  split at ha
  · split at hb
    · next h1 h2 => exact absurd (h1.trans h2.symm) hne
    · exact Option.some.inj ha ▸ hfree q2 r2 hb
  · split at hb
    · rw [conflicts_comm, ← Option.some.inj hb]
      exact hfree q1 r1 ha
    · exact h q1 q2 r1 r2 hne ha hb

namespace Keeps

/-! ### Updates of engines -/

theorem setEngine {s : State} {p : Port} {e : Engine} (he : EngineOk (s.engine p) → EngineOk e)
    (hf : BusesOk s → FlightOk e ∧ ∀ t, e.transaction = some t → t.Sound) : Keeps s (s.setEngine p e) := by
  refine ofEngines (fun q hq => ?_) fun q hs => ?_
  · rw [PerPort.get_set]
    split
    · next h => exact he (h ▸ hq)
    · exact hq
  · rw [PerPort.get_set]
    split
    · exact hf hs
    · exact ⟨hs.flights q, fun t => hs.sound⟩

/-- Work after a change of an engine that leaves its state, activity, transaction, segment, bytes confirmed and recovery. -/
theorem ofSetEngine {s u : State} {p : Port} {e : Engine} (k : Keeps (s.setEngine p e) u)
    (h1 : e.portState = (s.engine p).portState)
    (h2 : e.activity = (s.engine p).activity) (h3 : e.transaction = (s.engine p).transaction)
    (h4 : e.segment = (s.engine p).segment) (h5 : e.confirmed = (s.engine p).confirmed)
    (h6 : e.recovery = (s.engine p).recovery) : Keeps s u := by
  refine (setEngine (fun h => ⟨?_, ?_, ?_⟩) fun hs => ⟨?_, fun t ht => hs.sound (h3 ▸ ht)⟩).trans k
  · rw [h1, h2, h3]; exact h.busy
  · rw [h1, h3]; exact h.free
  · rw [h1, h6]; exact h.recovering
  · have h := hs.flights p
    have hn : ∀ t, e.dataOutLength t = (s.engine p).dataOutLength t := fun t => by
      simp only [Engine.dataOutLength, h4]
    refine ⟨?_, ?_, ?_, ?_, ?_⟩
    · rw [h1, h3, h5]; exact h.pending
    · rw [h3]; exact h.page
    · rw [h1, h3, h4, h5]; exact h.segment
    · simp only [h1, h2, h3, hn]; exact h.sent
    · rw [h1, h2, h3]; exact h.received

/-- A change of port state, with the port's engine and its announcements and occasions. -/
theorem enterPortState {s : State} {p : Port} {e : Engine} {st : PortState}
    (he : EngineOk (s.engine p) → EngineOk { e with portState := st })
    (hf : BusesOk s → FlightOk { e with portState := st } ∧ ∀ t, e.transaction = some t → t.Sound) :
    Keeps s ((s.setEngine p e).enterPortState p st) := by
  obtain ⟨news, arb, h⟩ := enterPortState_touches (s.setEngine p e) p st
  rw [h, setEngine_engine_same]
  have hk : Keeps s (s.setEngine p { e with portState := st }) := setEngine he hf
  have hs : ({ s.setEngine p e with
      engines := (s.setEngine p e).engines.set p { e with portState := st }, portNews := news, arbiters := arb } : State)
      = { s.setEngine p { e with portState := st } with portNews := news, arbiters := arb } := by
    simp [State.setEngine]
  rw [hs]
  exact hk.trans ((portNews _ news).trans (arbiters _ arb))

/-- The engine of a BUSY port goes on with its transaction. -/
theorem goesOn {s : State} {p : Port} {e : Engine} {t : Transaction} (ht : (s.engine p).transaction = some t)
    (hb : (s.engine p).portState = .busy) (h : (s.engine p).GoesOn e t) : Keeps s (s.setEngine p e) := by
  have ht' := h.transaction.trans ht
  have hb' := h.portState.trans hb
  refine setEngine (fun ho => ?_) fun hs => ⟨?_, fun u hu => hs.sound (h.transaction ▸ hu)⟩
  · exact engineOk_of_busy hb' (by simp [ht']) (h.active (ho.busy hb).2)
      (h.recovery.trans (ho.recovery_none (by rw [hb]; decide)))
  · exact flightOk_of_busy ht' hb' (hs.sound ht) (h.aboard (hs.sound ht) ((hs.flights p).aboard ht hb))

/-! ### The end and the beginning of a transaction (R80, R81, R97) -/

/-- The store of the last-read part stays inside staging memory (R48, R116). -/
theorem settleWatch {s : State} {e : Engine} {t : Transaction} (r : Result) (ht : BusesOk s → t.Sound) :
    Keeps s (s.settleWatch e t r) := by
  unfold State.settleWatch
  split
  · next mode hold hop =>
    split
    · refine (ofStaging fun hs => ?_).trans (claimIf _ _ _)
      have hfit := (ht hs).fits fun ho => by rw [(ht hs).boot ho] at hop; cases hop
      have hin := hfit.inside
      simp only [Transfer.span, hop] at hin
      have hlen : (e.reading t).length ≤ t.transfer.length := by simp [Engine.reading]
      exact ⟨Memory.wf_writeBytes _ _ hs.staging.canonical, hs.staging.below.writeBytes _ (by omega)⟩
    · exact refl s
  · exact refl s
  · exact refl s

theorem endTransaction {s : State} {p : Port} {e : Engine} {t : Transaction} (r : Result) (course : Course)
    (inTick : Bool) (hr : EngineOk (s.engine p) → e.recovery = none) (ht : BusesOk s → t.Sound) :
    Keeps s (s.endTransaction p e t r course inTick) := by
  have hbusy := endTransaction_busy s p e t r course inTick
  obtain ⟨busy, arb, news, rep, he⟩ := endTransaction_touches s p e t r course inTick
  rw [he] at hbusy ⊢
  have hwatch : Keeps s { s with staging := (s.settleWatch e t r).staging, out := (s.settleWatch e t r).out } := by
    have hk := settleWatch (s := s) (e := e) r ht
    obtain ⟨st, out, hw⟩ := settleWatch_touches s e t r
    rw [hw] at hk ⊢
    exact hk
  generalize (s.settleWatch e t r).staging = st at *
  generalize (s.settleWatch e t r).out = out at *
  generalize hrec : ({ result := r, moved := e.bytesMoved t r, attempts := e.attempts } : Record) = rec_
  generalize s.watchOutcome e t r = o
  have hend : (e.ended t r rec_ o).transaction = none ∧ (e.ended t r rec_ o).recovery = e.recovery := by
    unfold Engine.ended
    split <;> exact ⟨rfl, rfl⟩
  have hcourse : ((e.ended t r rec_ o).onCourse course inTick).transaction = none := by
    unfold Engine.onCourse
    split
    · split <;> exact hend.1
    · exact hend.1
    · exact hend.1
  have hengine : Keeps { s with staging := st, out := out }
      (({ s with staging := st, out := out } : State).setEngine p ((e.ended t r rec_ o).onCourse course inTick)) := by
    refine setEngine (fun h => ?_) fun _ => ⟨flightOk_of_none hcourse, fun u hu => ?_⟩
    · unfold Engine.onCourse
      split
      · split
        · exact engineOk_of_recovering rfl nofun
        · exact engineOk_of_free nofun nofun hend.1 (hend.2.trans (hr h))
      · exact engineOk_of_recovering rfl nofun
      · exact engineOk_of_free nofun nofun hend.1 (hend.2.trans (hr h))
    · rw [hcourse] at hu; cases hu
  have hlist : ∀ u : State, u.busy = s.busy → Keeps u { u with busy := busy } := by
    intro u hu
    refine ofBusy fun h => ?_
    rcases hbusy with hb | hb <;> dsimp only at hb <;> rw [hb, ← hu]
    · exact h
    · exact h.set_none p
  refine hwatch.trans (hengine.trans ?_)
  generalize hu : ({ s with staging := st, out := out } : State).setEngine p _ = u
  have hub : u.busy = s.busy := hu ▸ rfl
  have hrep : Keeps u { u with busy := busy, replay := { u.replay with record := rep } } :=
    (hlist u hub).trans (ofReplay (by exact id))
  have hfin := hrep.trans ((portNews _ news).trans (arbiters _ arb))
  subst hu
  exact hfin

/-- What a bus event makes of the engine of a BUSY port. -/
theorem proceed {s : State} {p : Port} {t : Transaction} {pr : Progress} (ht : (s.engine p).transaction = some t)
    (hb : (s.engine p).portState = .busy) (inTick : Bool) (h : pr.From (s.engine p) t) :
    Keeps s (s.proceed p t inTick pr) := by
  cases pr with
  | goesOn e => exact goesOn ht hb h
  | ends e r course =>
    exact endTransaction r course inTick
      (fun ho => Eq.trans h (ho.recovery_none (by rw [hb]; decide))) fun hs => hs.sound ht

theorem beginTransaction {s : State} {p : Port} {t : Transaction} (lines : Lines) (ht : BusesOk s → t.Sound) :
    Keeps s (s.beginTransaction p t lines) := by
  obtain ⟨news, arb, h⟩ := beginTransaction_touches s p t lines
  rw [h]
  generalize he : (if lines.bothHigh = true then _ else _ : Engine) = e
  have hk : Keeps s (s.setEngine p e) := by
    subst he
    refine setEngine (fun _ => ?_) fun hs => ⟨?_, fun u hu => ?_⟩
    · split
      · exact engineOk_of_busy rfl nofun nofun rfl
      · exact engineOk_of_recovering rfl nofun
    · split
      · exact flightOk_beginFirstAttempt rfl rfl (ht hs) rfl
      · exact flightOk_of_pending rfl rfl fun u hu => Option.some.inj hu ▸ ht hs
    · have : u = t := by split at hu <;> exact (Option.some.inj hu).symm
      exact this ▸ ht hs
  exact hk.trans ((portNews _ news).trans (arbiters _ arb))

end Keeps

end Sys2Proof.Machine

namespace Sys2Proof.Machine

/-! ### What the claims and the choices of a record leave of an engine -/

theorem whenBusy_step {s : State} {p : Port} {f : Engine → Transaction → State}
    (hf : ∀ t, (s.engine p).transaction = some t → (s.engine p).portState = .busy → Keeps s (f (s.engine p) t)) :
    Keeps s (whenBusy p s f) :=
  whenBusy_keeps (P := Keeps s) hf (.refl s)

theorem winningTicket_spec {s : State} {p : Port} {t : Ticket} (h : s.winningTicket p = some t) :
    t ∈ s.tickets ∧ s.eligible t.transfer = true :=
  ⟨(List.mem_filter.mp (List.mem_of_find?_eq_some h)).1, by simpa using List.find?_some h⟩

/-- The winning head is one of the eligible heads in the port's set (R60). -/
theorem winningHead_spec {s : State} {p : Port} {c : ChannelIx} (h : s.winningHead p = some c) :
    (s.channel c).head = .candidate p ∧ s.headEligible c = true := by
  have hmem : ∀ (cs : List ChannelIx) (best : Option ChannelIx), cs.foldl s.betterHead best = some c →
      best = some c ∨ c ∈ cs := by
    intro cs
    induction cs with
    | nil => exact fun _ hb => .inl hb
    | cons k rest ih =>
      intro best hb
      rcases ih _ hb with hk | hk
      · have : s.betterHead best k = best ∨ s.betterHead best k = some k := by
          unfold State.betterHead
          split
          · exact .inr rfl
          · split
            · exact .inr rfl
            · exact .inl rfl
        rcases this with he | he
        · exact .inl (he ▸ hk)
        · exact .inr (by rw [he] at hk; simp [Option.some.inj hk])
      · exact .inr (List.mem_cons_of_mem _ hk)
  rcases hmem _ _ h with hn | hc
  · cases hn
  · obtain ⟨hc, he⟩ := List.mem_filter.mp hc
    exact ⟨by simpa using (List.mem_filter.mp hc).2, he⟩

theorem headTransfer_mem {ch : Channel} {t : Transfer} (h : ch.headTransfer = some t) : Descriptor.transfer t ∈ ch.ring := by
  unfold Channel.headTransfer at h
  split at h
  · next u hu => exact Option.some.inj h ▸ List.mem_of_getElem? hu
  · cases h
  · cases h

/-- A grant is the beginning of the transaction with the busy range and the slot's mark, and with announcements and
occasions (R61). -/
theorem grantTo_touches (s : State) (p : Port) (owner : Owner) (index : Nat) (tr : Transfer) (d : Definition)
    (lines : Lines) : ∃ news arb, s.grantTo p owner index tr d lines =
      { ({ s.beginTransaction p { owner := owner, index := index, transfer := tr, defn := d } lines with
            busy := s.busy.set p (some tr.busyRange) } : State).setSlot tr.slot
          { s.slot tr.slot with inFlight := true } with
        portNews := news, arbiters := arb } := by
  unfold State.grantTo
  dsimp only
  generalize hs3 : State.setArbiter _ p _ = s3
  obtain ⟨n1, a1, h1⟩ := beginTransaction_touches s3 p { owner := owner, index := index, transfer := tr, defn := d } lines
  obtain ⟨n2, a2, h2⟩ := beginTransaction_touches s p { owner := owner, index := index, transfer := tr, defn := d } lines
  refine ⟨n1, a1, ?_⟩
  rw [h1, h2]
  subst hs3
  rfl

/-- R34, R85: what is granted is sound if its transfer fits and its definition is valid. -/
theorem sound_of_grant {owner : Owner} {index : Nat} {tr : Transfer} {d : Definition} (ho : owner ≠ .replay)
    (hf : tr.Fits) (hd : d.valid = true) :
    ({ owner := owner, index := index, transfer := tr, defn := d } : Transaction).Sound := by
  refine ⟨fun _ => hf, fun h => absurd h ho, fun hseg => ?_⟩
  simp only [Transaction.segmented, Bool.and_eq_true, beq_iff_eq] at hseg
  exact Definition.valid_pageSize hd hseg.1

/-- A channel whose head is a candidate is RUNNING, and its head may be served (R13). -/
theorem ChannelOk.of_candidate {ch ch' : Channel} (h : ChannelOk ch) {p : Port} (hd : ch.head = .candidate p)
    (hs : ch'.state = ch.state) (hr : ch'.haltReason = ch.haltReason) (hh : ch'.heldPassEnd = ch.heldPassEnd) :
    ChannelOk ch' := by
  refine h.running_head ?_ hs hr hh
  cases hst : ch.state with
  | running => rfl
  | off => have := h.quiet (.inl hst); rw [hd] at this; cases this
  | paced => have := h.quiet (.inr (.inl hst)); rw [hd] at this; cases this
  | halted => have := h.quiet (.inr (.inr hst)); rw [hd] at this; cases this
  | stopping => obtain ⟨q, hq⟩ := h.stopping hst; rw [hd] at hq; cases hq

namespace Keeps

/-! ### TARGET_ACCOUNTING (R37, R38, R62) -/

theorem accountSlot (s : State) (n : SlotIx) (r : Result) : Keeps s (s.accountSlot n r) := by
  have h : Keeps s (s.setSlot n { target := (s.slot n).target.map (·.account r), inFlight := false }) := by
    refine setSlot fun hs => hs.setSlot_sameDefinition fun t ht => ?_
    obtain ⟨u, hu, rfl⟩ := Option.map_eq_some_iff.mp ht
    exact ⟨u, hu, account_defn u r, fun h => h.account r⟩
  unfold State.accountSlot
  dsimp only
  split
  · exact h.trans ((claim _ _).trans (announceSlot _ n))
  · exact h

theorem deliver (s : State) (m : MadeRecord) : Keeps s (s.deliver m) := by
  unfold State.deliver
  split
  · exact ofSetChannel (refl _) rfl fun h => ⟨h.quiet, h.stopping, h.halted, h.held⟩
  · exact modifyTicket s _ (by exact fun _ => rfl) (by exact fun _ => rfl)
  · exact refl s

theorem onTargetAccounting (s : State) (p : Port) : Keeps s (s.onTargetAccounting p) := by
  unfold State.onTargetAccounting
  split
  · exact refl s
  · exact ofSetEngine ((accountSlot _ _ _).trans (deliver _ _)) rfl rfl rfl rfl rfl rfl

/-! ### The engines' steps (R76 to R93) -/

theorem onBusConditionFormed (s : State) (p : Port) (lines : Lines) : Keeps s (s.onBusConditionFormed p lines) :=
  whenBusy_step fun t ht hb => proceed ht hb false (conditionFormed_from _ t lines)

theorem onBusConflict (s : State) (p : Port) : Keeps s (s.onBusConflict p) := by
  refine whenBusy_step fun t ht hb => ?_
  split
  · exact endTransaction _ _ _ (fun h => h.recovery_none (by rw [hb]; decide)) fun hs => hs.sound ht
  · exact refl s

theorem onStretchEnd (s : State) (p : Port) : Keeps s (s.onStretchEnd p) := by
  refine whenBusy_step fun t ht hb => ?_
  split
  · exact goesOn ht hb (.unread _ t _ _ _ _ _ _ none _)
  · exact refl s

theorem onStretchTimeout (s : State) (p : Port) : Keeps s (s.onStretchTimeout p) := by
  refine whenBusy_step fun t ht hb => ?_
  split
  · exact goesOn ht hb ((Engine.GoesOn.turnTo (a := .stretchClockWait) nofun fun _ _ _ => ⟨nofun, nofun⟩).trans
      (.unread _ t _ _ _ _ _ _ _ _))
  · exact refl s

theorem onStopClockWaitExpiry (s : State) (p : Port) : Keeps s (s.onStopClockWaitExpiry p) := by
  refine whenBusy_step fun t ht hb => ?_
  split
  · exact endTransaction _ _ _ (fun h => h.recovery_none (by rw [hb]; decide)) fun hs => hs.sound ht
  · exact refl s

theorem onCyclePollAnswer (s : State) (p : Port) (ack : Bool) : Keeps s (s.onCyclePollAnswer p ack) := by
  refine whenBusy_step fun t ht hb => ?_
  split
  · exact proceed ht hb false (pollAnswered_from _ t ack)
  · exact refl s

theorem onCycleLimitExpiry (s : State) (p : Port) (b : Bool) : Keeps s (s.onCycleLimitExpiry p b) := by
  refine whenBusy_step fun t ht hb => ?_
  split
  · exact proceed ht hb true (.of_goesOn (.found _ t b) (cycleLimitOut_from _ t))
  · exact refl s

theorem onRetryGapEnd (s : State) (p : Port) : Keeps s (s.onRetryGapEnd p) := by
  refine whenBusy_step fun t ht hb => ?_
  split
  · exact goesOn ht hb (.beginAttempt _ t)
  · exact refl s

/-- A byte received is stored inside staging memory, as it is one of the transfer's (R45, R46). -/
theorem storeReceived {s : State} {p : Port} {t : Transaction} (ht : (s.engine p).transaction = some t)
    (hb : (s.engine p).portState = .busy) (data : Byte) : Keeps s (s.storeReceived (s.engine p) t data) := by
  unfold State.storeReceived
  split
  · next k ha hop =>
    have hstore (ho : t.owner ≠ .replay) :
        Keeps s { s with staging := s.staging.write (t.transfer.position + k) data } := by
      refine ofStaging fun hs => ?_
      have hk := (hs.flights p).received t k ht ho hb ha
      have hin := ((hs.sound ht).fits ho).inside
      simp only [Transfer.span, hop] at hin
      exact ⟨Memory.wf_write _ _ hs.staging.canonical, hs.staging.below.write (by omega) _⟩
    split
    · exact ofReplay (by exact id)
    · next ho => exact hstore (by rw [ho]; nofun)
    · next ho => exact hstore (by rw [ho]; nofun)
  · exact refl s

theorem onByteComplete (s : State) (p : Port) (data : Byte) (ack : Bool) : Keeps s (s.onByteComplete p data ack) := by
  refine whenBusy_step fun t ht hb => (storeReceived ht hb data).trans ?_
  have he : (s.storeReceived (s.engine p) t data).engine p = s.engine p := by
    unfold State.storeReceived
    split
    · split <;> rfl
    · rfl
  refine goesOn (t := t) ?_ ?_ ?_ <;> rw [he]
  · exact ht
  · exact hb
  · exact .byteClocked _ t data ack

theorem takeAbortRequest (s : State) (p : Port) (owner : Owner) (b : Bool) : Keeps s (s.takeAbortRequest p owner b) := by
  unfold State.takeAbortRequest
  split
  · exact refl s
  · next t ht =>
    split
    · split
      · next hb => exact proceed ht hb false (.of_goesOn (.found _ t b) (takeAbort_from _ t))
      · exact ofSetEngine (refl _) rfl rfl rfl rfl rfl rfl
      · exact refl s
      · exact refl s
      · exact refl s
    · exact refl s

theorem onAbortRequest (s : State) (p : Port) (b : Bool) : Keeps s (s.onAbortRequest p b) := by
  unfold State.onAbortRequest
  split
  · exact refl s
  · exact ofSetEngine (takeAbortRequest _ p _ b) rfl rfl rfl rfl rfl rfl

/-! ### Recovery (R101 to R105) -/

theorem whenRecovering {s : State} {p : Port} {arises : Recovery → Option Nat → Bool}
    {f : State → Engine → Recovery → State}
    (hf : ∀ (u : State) (r : Recovery), (u.engine p).portState = .recovering → Keeps u (f u (u.engine p) r)) :
    Keeps s (whenRecovering p s arises f) :=
  whenRecovering_keeps (P := Keeps s)
    (fun r _ hp _ => (onTargetAccounting s p).trans (hf _ r (by rw [onTargetAccounting_engine]; exact hp))) (refl s)

/-- A recovery begins at a port without a transaction (R101, R111). -/
theorem enterRecovery {s : State} {p : Port} (hb : (s.engine p).portState ≠ .busy)
    (hr : (s.engine p).portState ≠ .recovering) (inTick : Bool) : Keeps s (s.enterRecovery p inTick) := by
  refine enterPortState (fun _ => engineOk_of_recovering rfl nofun) fun hs => ?_
  have ht := (hs.engines p).transaction_none hb hr
  exact ⟨flightOk_of_none ht, fun t h => absurd (ht.symm.trans h) nofun⟩

/-- A step or gap of the recovery under way (R102, R103). -/
theorem recoverAt {s : State} {p : Port} (hp : (s.engine p).portState = .recovering) (r : Recovery)
    (timer : Option Nat) : Keeps s (s.setEngine p ((s.engine p).recoverAt r timer)) := by
  refine setEngine (fun _ => engineOk_of_recovering hp nofun) fun hs => ⟨?_, fun t ht => hs.sound ht⟩
  have h := hs.flights p
  exact ⟨h.pending, h.page, h.segment, h.sent, h.received⟩

/-- After a recovery that succeeded (R104): the port is IDLE, or the transaction pending on it begins. -/
theorem afterRecovery {s : State} {p : Port} (hp : (s.engine p).portState = .recovering) (inTick : Bool) :
    Keeps s ((s.setEngine p (s.engine p).closeRecovery).afterRecovery p inTick) := by
  unfold State.afterRecovery
  rw [setEngine_engine_same]
  split
  · next ht =>
    exact enterPortState (fun _ => engineOk_of_free nofun nofun ht rfl)
      fun _ => ⟨flightOk_of_none ht, fun u hu => absurd (ht.symm.trans hu) nofun⟩
  · next t ht =>
    split
    · rw [endTransaction_setEngine]
      exact endTransaction _ _ _ (fun _ => rfl) fun hs => hs.sound (p := p) ht
    · dsimp only
      rw [enterPortState_engine_same, setEngine_engine_same]
      generalize he : ({ (s.engine p).closeRecovery with portState := .busy } : Engine) = e
      have het : e.transaction = some t := he ▸ ht
      obtain ⟨news, arb, h⟩ := enterPortState_setEngine s p (s.engine p).closeRecovery (e.beginFirstAttempt t) .busy
      rw [h]
      have hk : Keeps s (s.setEngine p (e.beginFirstAttempt t)) := by
        subst he
        refine setEngine (fun _ => engineOk_of_busy rfl ?_ nofun rfl) fun hs => ⟨?_, fun u hu => hs.sound (p := p) hu⟩
        · exact Option.ne_none_iff_exists'.mpr ⟨t, het⟩
        · exact flightOk_beginFirstAttempt het rfl (hs.sound (p := p) ht) ((hs.flights p).pending t ht hp)
      exact hk.trans ((portNews _ news).trans (arbiters _ arb))

theorem recoverySucceeds {s : State} {p : Port} (hp : (s.engine p).portState = .recovering) :
    Keeps s (s.recoverySucceeds p) :=
  (claim s _).trans (afterRecovery (s := s.claim _) hp false)

/-- After a recovery that failed the port is FAILED (R105). -/
theorem afterFailedRecovery (s : State) (p : Port) (inTick : Bool) :
    Keeps s ((s.setEngine p (s.engine p).closeRecovery).afterFailedRecovery p inTick) := by
  unfold State.afterFailedRecovery
  rw [setEngine_engine_same]
  split
  · next ht =>
    exact enterPortState (fun _ => engineOk_of_free nofun nofun ht rfl)
      fun _ => ⟨flightOk_of_none ht, fun u hu => absurd (ht.symm.trans hu) nofun⟩
  · next t ht =>
    rw [endTransaction_setEngine]
    exact endTransaction _ _ _ (fun _ => rfl) fun hs => hs.sound (p := p) ht

theorem recoveryFails (s : State) (p : Port) (inTick : Bool) : Keeps s (s.recoveryFails p inTick) :=
  (claim s _).trans (afterFailedRecovery _ p inTick)

theorem attemptFails {s : State} {p : Port} (hp : (s.engine p).portState = .recovering) (r : Recovery) (inTick : Bool) :
    Keeps s (s.attemptFails p r inTick) := by
  unfold State.attemptFails
  split
  · exact recoverAt hp _ _
  · exact recoveryFails s p inTick

theorem onClockWaitEnd (s : State) (p : Port) (dataHigh : Bool) : Keeps s (s.onClockWaitEnd p dataHigh) := by
  unfold State.onClockWaitEnd
  split
  · refine whenRecovering fun u r hp => ?_
    unfold Engine.clockHigh
    split
    · split
      · exact recoverAt hp _ _
      · exact recoverAt hp _ _
    · exact recoverAt hp _ _
    · rw [setEngine_engine_self]; exact refl u
    · rw [setEngine_engine_self]; exact refl u
  · refine whenBusy_step fun t ht hb => ?_
    split
    · exact goesOn ht hb (.turnTo nofun fun _ _ _ => ⟨nofun, nofun⟩)
    · exact refl s

theorem onRecoveryPulse (s : State) (p : Port) : Keeps s (s.onRecoveryPulse p) :=
  whenRecovering fun _ _ hp => recoverAt hp _ _

theorem onRecoveryClockWaitExpiry (s : State) (p : Port) : Keeps s (s.onRecoveryClockWaitExpiry p) :=
  whenRecovering fun _ r hp => attemptFails hp r true

theorem onRecoveryAttemptEnd (s : State) (p : Port) (lines : Lines) : Keeps s (s.onRecoveryAttemptEnd p lines) := by
  refine whenRecovering fun u r hp => ?_
  split
  · exact recoverySucceeds hp
  · exact attemptFails hp r false

theorem onRecoveryGapEnd (s : State) (p : Port) : Keeps s (s.onRecoveryGapEnd p) :=
  whenRecovering fun _ _ hp => recoverAt hp _ _

/-! ### Grants (R58 to R61) -/

/-- A grant claims a busy range that is free, marks the slot, and the engine takes a transaction that is sound. -/
theorem grantTo {s : State} {p : Port} {owner : Owner} {index : Nat} {tr : Transfer} {d : Definition} (lines : Lines)
    (he : s.eligible tr = true)
    (ht : BusesOk s → ({ owner := owner, index := index, transfer := tr, defn := d } : Transaction).Sound) :
    Keeps s (s.grantTo p owner index tr d lines) := by
  obtain ⟨news, arb, h⟩ := grantTo_touches s p owner index tr d lines
  rw [h]
  obtain ⟨news', arb', hb⟩ := beginTransaction_touches s p
    { owner := owner, index := index, transfer := tr, defn := d } lines
  have hk := beginTransaction (p := p) lines ht
  rw [hb] at hk ⊢
  refine (hk.trans (ofBusy (b := s.busy.set p (some tr.busyRange)) fun hs => ?_)).trans
    ((setSlot (n := tr.slot) (sl := { s.slot tr.slot with inFlight := true }) fun hs => ?_).trans
      ((portNews _ news).trans (arbiters _ arb)))
  · exact BusyOk.set_eligible (s := s) hs p he
  · exact hs.setSlot_sameDefinition fun t hu => ⟨t, hu, rfl, id⟩

theorem grantTicket {s : State} {p : Port} {t : Ticket} (lines : Lines) (hw : s.winningTicket p = some t) :
    Keeps s (s.grantTicket p t lines) := by
  obtain ⟨hmem, he⟩ := winningTicket_spec hw
  unfold State.grantTicket
  split
  · exact refl s
  · next tg htg =>
    refine (modifyTicket s _ (by exact fun _ => rfl) (by exact fun _ => rfl)).trans (grantTo lines he fun hs => ?_)
    have hsame := modifyFirst_map (fun u : Ticket => u.number == t.number) (fun u => { u with state := .inFlight })
      (·.transfer) (fun _ => rfl) s.tickets
    obtain ⟨u, hu, hut⟩ : ∃ u ∈ modifyFirst (fun u : Ticket => u.number == t.number)
        (fun u => { u with state := .inFlight }) s.tickets, u.transfer = t.transfer :=
      List.mem_map.mp (hsame ▸ List.mem_map_of_mem hmem)
    exact sound_of_grant nofun (hut ▸ hs.staging.tickets u hu) (hs.targets.each t.transfer.slot tg htg).valid

theorem grantHead {s : State} {p : Port} {c : ChannelIx} (lines : Lines) (hw : s.winningHead p = some c) :
    Keeps s (s.grantHead p c lines) := by
  obtain ⟨hhead, helig⟩ := winningHead_spec hw
  unfold State.grantHead
  split
  · exact refl s
  · next tr htr =>
    split
    · exact refl s
    · next tg htg =>
      have he : s.eligible tr = true := by simpa [State.headEligible, htr] using helig
      refine ofSetChannel (grantTo lines he fun hs => ?_) rfl fun h => ?_
      · refine sound_of_grant nofun (hs.staging.rings c (.transfer tr) ?_) (hs.targets.each tr.slot tg htg).valid
        rw [setChannel_channel_same]
        exact headTransfer_mem htr
      · exact h.of_candidate hhead rfl rfl rfl

theorem grantWinner (s : State) (p : Port) (lines : Lines) : Keeps s (s.grantWinner p lines) := by
  unfold State.grantWinner
  split
  · next t ht => exact grantTicket lines ht
  · split
    · next c hc => exact grantHead lines hc
    · exact refl s

theorem onGrantOccasion (s : State) (p : Port) (lines : Lines) : Keeps s (s.onGrantOccasion p lines) := by
  unfold State.onGrantOccasion
  split
  · dsimp only
    split
    · exact (setArbiter s p _).trans (grantWinner _ p lines)
    · exact setArbiter s p _
  · exact refl s

/-! ### The link and the interpreter (R160 to R169) -/

theorem onReceiveCharacter (s : State) (char : Byte) (stopHigh : Bool) : Keeps s (s.onReceiveCharacter char stopHigh) :=
  link s _

theorem onGapExpiry (s : State) : Keeps s s.onGapExpiry := by
  unfold State.onGapExpiry
  split
  · exact link s _
  · exact refl s

/-- The transmitter's choice after a change of the notices (R145). -/
theorem outChoose {s : State} {o : Outbound} (h : NoticesOk s.out.notices → NoticesOk o.notices) :
    Keeps s { s with out := o.choose } :=
  out fun hs => choose_keeps_notices (h hs)

theorem heard (s : State) : Keeps s s.heard := by
  unfold State.heard
  split
  · exact outChoose heard_keeps_notices
  · exact refl s

theorem offerFrame (s : State) (f : CommandFrame) : Keeps s (s.offerFrame f) := by
  unfold State.offerFrame
  dsimp only
  split
  · exact link s _
  · exact (link s _).trans (claim _ _)

theorem takeFrame (outcome : FrameCheck) (s : State) {f : RxFrame → State → State} (hf : ∀ x s, Keeps s (f x s)) :
    Keeps s (takeFrame outcome s f) := by
  unfold Machine.takeFrame
  split
  · exact refl s
  · split
    · exact (link s _).trans (hf _ _)
    · exact refl s

theorem onCommandFrame (s : State) : Keeps s s.onCommandFrame :=
  takeFrame .command s fun _ s => (heard s).trans (offerFrame _ _)

theorem onCrcError (s : State) : Keeps s s.onCrcError := takeFrame .crcError s fun _ s => link s _

theorem onBadFrame (s : State) : Keeps s s.onBadFrame := takeFrame .badFrame s fun _ s => link s _

theorem onNoticeAck (s : State) : Keeps s s.onNoticeAck :=
  takeFrame .noticeAck s fun frame s =>
    (link s { s.link with
      counters := { s.link.counters with acknowledgements := saturate s.link.counters.acknowledgements } }).trans
    (outChoose (o := { s.out with notices := (s.out.notices.acknowledge (at1 frame.body 1)).heard })
      fun h => heard_keeps_notices (acknowledge_keeps_notices _ h))

theorem onFrameEnd (s : State) (takingFirst : Bool) : Keeps s (s.onFrameEnd takingFirst) :=
  out (frameEnd_keeps_notices _)

theorem onRetransmitTimerExpiry (s : State) (n : Nat) : Keeps s (s.onRetransmitTimerExpiry n) := by
  unfold State.onRetransmitTimerExpiry
  split
  · exact outChoose (o := { s.out with notices := s.out.notices.timerExpiry n }) (timerExpiry_keeps_notices n)
  · exact refl s

theorem answer (s : State) (f : CommandFrame) (st : Status) (fields : List Byte) : Keeps s (s.answer f st fields) := by
  unfold State.answer
  generalize ({ tag := f.tag, kind := f.kind, status := st, fields := fields } : Reply) = reply
  exact (interp s { cache := some { tag := f.tag, crc := f.crc, reply := reply }, executing := false }).trans
    (out (o := s.out.placeReply reply) (placeReply_keeps_notices _))

theorem takeOldest (s : State) (rest : List CommandFrame) : Keeps s (s.takeOldest rest) :=
  (link s { s.link with inbox := rest }).trans (interp _ { s.interp with executing := true })

/-- The taking of a frame keeps what the owner's settlement and what follows the reply keep (R168, R169). -/
theorem interpret (kind : CommandKind) {settle : List Byte → State → Settled} {after : Nat → State → State}
    (hs : ∀ payload s, Keeps s (settle payload s).state) (ha : ∀ n s, Keeps s (after n s)) (s : State) :
    Keeps s (interpret kind settle after s) := by
  have hl : ∀ payload s, Keeps s (settleFromLink kind settle payload s).state := by
    intro payload s
    unfold settleFromLink
    split
    · exact refl s
    · split
      · exact refl s
      · exact hs payload s
  unfold Machine.interpret
  split
  · exact refl s
  · next f rest _ =>
    split
    · have h := (takeOldest s rest).trans (hl f.payload _)
      dsimp only
      split
      · exact h.trans (answer _ f _ _)
      · exact (h.trans (answer _ f _ _)).trans (ha _ _)
    · exact refl s

theorem interpretPlain (kind : CommandKind) {settle : List Byte → State → Settled}
    (hs : ∀ payload s, Keeps s (settle payload s).state) (s : State) : Keeps s (interpretPlain kind settle s) :=
  interpret kind hs (fun _ s => refl s) s

theorem onUnknownKind (s : State) : Keeps s s.onUnknownKind := by
  unfold State.onUnknownKind
  split
  · exact refl s
  · split
    · exact (takeOldest s _).trans (answer _ _ _ _)
    · exact refl s

theorem onDuplicateCommand (s : State) : Keeps s s.onDuplicateCommand := by
  unfold State.onDuplicateCommand
  split
  · split
    · next f rest c _ _ _ =>
      exact (link s { s.link with
        inbox := rest
        counters := { s.link.counters with duplicates := saturate s.link.counters.duplicates } }).trans
        (out (o := s.out.placeReply c.reply) (placeReply_keeps_notices _))
    · exact refl s
  · exact refl s
  · exact refl s

end Keeps

end Sys2Proof.Machine

namespace Sys2Proof.Machine

theorem xferTransferOf_fits {payload : List Byte} {t : Transfer} (h : xferTransferOf payload = some t) : t.Fits := by
  unfold xferTransferOf at h
  split at h
  · next u hu =>
    have hfit : u.Fits := descriptorOf_fits hu
    split at h
    · exact Option.some.inj h ▸ hfit
    · exact Option.some.inj h ▸ hfit
    · split at h
      · cases h
      · exact Option.some.inj h ▸ hfit
  · cases h
  · cases h

/-- What a port has announced is heard without a change of any port's state. -/
theorem hearPort_portState (s : State) (p q : Port) : (s.hearPort p).portState q = s.portState q := by
  obtain ⟨⟨_, _, _, _, _, h⟩, _⟩ := hearPort_touches s p
  rw [h]
  rfl

namespace Keeps

/-! ### The commands (R7 to R11, R24 to R28, R34, R40 to R43, R53, R54, R65, R70, R109 to R112, R128 to R131) -/

theorem withChannel {payload : List Byte} {s : State} {f : ChannelIx → Settled} (h : ∀ c, Keeps s (f c).state) :
    Keeps s (withChannel payload s f).state := by
  unfold Machine.withChannel
  split
  · exact h _
  · exact refl s

theorem withSlot {payload : List Byte} {s : State} {f : SlotIx → Settled} (h : ∀ n, Keeps s (f n).state) :
    Keeps s (withSlot payload s f).state := by
  unfold Machine.withSlot
  split
  · exact h _
  · exact refl s

theorem withPacer {payload : List Byte} {s : State} {f : PacerIx → Settled} (h : ∀ n, Keeps s (f n).state) :
    Keeps s (withPacer payload s f).state := by
  unfold Machine.withPacer
  split
  · exact h _
  · exact refl s

theorem withPort {payload : List Byte} {s : State} {f : Port → Settled} (h : ∀ p, Keeps s (f p).state) :
    Keeps s (withPort payload s f).state := by
  unfold Machine.withPort
  split
  · exact refl s
  · exact h _

theorem settleChConfig (payload : List Byte) (s : State) : Keeps s (settleChConfig payload s).state := by
  refine withChannel fun c => ?_
  split
  · exact refl s
  · split
    · exact ofSetChannel (refl _) rfl fun h => ⟨h.quiet, h.stopping, h.halted, h.held⟩
    · exact refl s

theorem settleChLoad (payload : List Byte) (s : State) : Keeps s (settleChLoad payload s).state := by
  refine withChannel fun c => ?_
  dsimp only
  split
  · exact refl s
  · split
    · exact refl s
    · split
      · next first ds _ hds =>
        obtain ⟨hlen, hfits⟩ := descriptorsOf_eq_some hds
        split
        · next hroom =>
          cases first with
          | true =>
            simp only [State.hasRoom, if_true, Bool.and_eq_true, decide_eq_true_eq] at hroom
            refine (releaseRing s c).trans (appendRing ?_ ?_ hfits)
            · simp only [State.releaseRing, setChannel_poolFree]; omega
            · simp only [State.releaseRing, setChannel_channel_same, List.length_nil]; omega
          | false =>
            simp only [State.hasRoom, Bool.false_eq_true, if_false, Bool.and_eq_true, decide_eq_true_eq] at hroom
            exact appendRing (by omega) (by omega) hfits
        · exact refl s
      · exact refl s

theorem settleChClear (payload : List Byte) (s : State) : Keeps s (settleChClear payload s).state := by
  refine withChannel fun c => ?_
  split
  · exact refl s
  · exact releaseRing s c

theorem settleChGet (payload : List Byte) (s : State) : Keeps s (settleChGet payload s).state := by
  refine withChannel fun c => ?_
  split
  · exact refl s
  · split <;> exact refl s

theorem settleChStart (payload : List Byte) (s : State) : Keeps s (settleChStart payload s).state := by
  refine withChannel fun c => ?_
  dsimp only
  split
  · exact refl s
  · next h =>
    have hoff : (s.channel c).state = .off := by
      by_contra hne
      exact h (.inl hne)
    split
    · exact beginPass (by rw [hoff]; decide) false
    · refine ofSetChannel (refl _) rfl fun hc => ?_
      obtain ⟨hr, hh⟩ := hc.not_halted (by rw [hoff]; decide)
      exact channelOk_of_resting (.inr rfl) rfl hr hh

/-- A channel that goes to OFF is consistent (R27). -/
theorem goOff (s : State) (c : ChannelIx) : Keeps s (s.setChannel c (s.channel c).goOff) :=
  setChannel rfl fun _ => channelOk_of_resting (.inl rfl) rfl rfl rfl

theorem stopChannel (s : State) (c : ChannelIx) : Keeps s (s.stopChannel c) := by
  unfold State.stopChannel
  dsimp only
  split
  · exact refl s
  · exact refl s
  · exact goOff s c
  · exact goOff s c
  · next hrun =>
    split
    · next p hp =>
      refine ofSetChannel (refl _) rfl fun h => ?_
      obtain ⟨hr, hh⟩ := h.not_halted (by rw [hrun]; decide)
      exact ⟨nofun, fun _ => ⟨p, hp⟩, by simp [hr], by simp [hh]⟩
    all_goals exact goOff s c

theorem settleChStop (payload : List Byte) (s : State) : Keeps s (settleChStop payload s).state :=
  withChannel fun c => stopChannel s c

theorem sendAbort (s : State) (p : Port) (o : Owner) : Keeps s (s.sendAbort p o) :=
  ofSetEngine (refl _) rfl rfl rfl rfl rfl rfl

theorem settleChAbort (payload : List Byte) (s : State) : Keeps s (settleChAbort payload s).state := by
  refine withChannel fun c => ?_
  change Keeps s (s.abortChannel c)
  unfold State.abortChannel
  dsimp only
  split
  · exact (stopChannel s c).trans (sendAbort _ _ _)
  all_goals exact stopChannel s c

theorem settleChResume (payload : List Byte) (s : State) : Keeps s (settleChResume payload s).state := by
  refine withChannel fun c => ?_
  split
  · exact refl s
  · dsimp only
    split
    · exact refl s
    · split
      · change Keeps s (s.releaseHold c)
        unfold State.releaseHold
        dsimp only
        split
        · exact ofSetChannel (afterPass (by simp)) rfl fun _ => channelOk_of_running rfl rfl rfl
        · exact ofSetChannel (serveHead (by simp) false) rfl fun _ => channelOk_of_running rfl rfl rfl
      · next hreason =>
        have hrun : ChannelOk (s.channel c) →
            ChannelOk { s.channel c with state := .running, haltReason := none } := fun h => by
          refine channelOk_of_running rfl rfl ?_
          cases hh : (s.channel c).heldPassEnd with
          | false => rfl
          | true => exact absurd (h.held hh) hreason
        split
        · exact ofSetChannel (finishAndGoOn (by simp) false) rfl hrun
        · exact ofSetChannel (serveHead (by simp) false) rfl hrun

theorem settleTgtSet (payload : List Byte) (s : State) : Keeps s (settleTgtSet payload s).state := by
  refine withSlot fun n => ?_
  split
  · exact refl s
  · next d hd =>
    split
    · exact refl s
    · split
      · exact refl s
      · next hdup =>
        exact (setSlot fun h => h.setSlot_new (definitionOf_valid hd) (by simpa using hdup)).trans (announceSlot _ n)

theorem settleTgtRemove (payload : List Byte) (s : State) : Keeps s (settleTgtRemove payload s).state := by
  refine withSlot fun n => ?_
  dsimp only
  split
  · exact refl s
  · split
    · exact refl s
    · exact (setSlot (n := n) (sl := { s.slot n with target := none }) fun h =>
        h.setSlot_sameDefinition nofun).trans (announceSlot _ n)

theorem settleTgtFence (payload : List Byte) (s : State) : Keeps s (settleTgtFence payload s).state := by
  refine withSlot fun n => ?_
  dsimp only
  split
  · exact refl s
  · next t ht =>
    split
    · exact refl s
    · exact (setSlot (n := n) (sl := { s.slot n with target := some { t with standing := .fenced } }) fun h =>
        h.setSlot_sameDefinition fun u hu => ⟨t, ht, by cases hu; rfl, fun hok => by cases hu; exact hok.fenced⟩).trans
        (announceSlot _ n)

theorem settleTgtUnfence (payload : List Byte) (s : State) : Keeps s (settleTgtUnfence payload s).state := by
  refine withSlot fun n => ?_
  dsimp only
  split
  · exact refl s
  · next t ht =>
    split
    · exact refl s
    · exact (setSlot (n := n) (sl := { s.slot n with target := some { t with standing := .online, count := 0 } })
        fun h => h.setSlot_sameDefinition fun u hu => ⟨t, ht, by cases hu; rfl, fun hok => by
          cases hu; exact targetOk_of_online hok.valid rfl rfl rfl⟩).trans (announceSlot _ n)

/-- R53: what the host writes lies inside staging memory. -/
theorem settleMemWrite (payload : List Byte) (s : State) : Keeps s (settleMemWrite payload s).state := by
  unfold Machine.settleMemWrite
  dsimp only
  split
  · exact refl s
  · next hfits =>
    split
    · exact refl s
    · next hrange =>
      split
      · exact refl s
      · refine ofStaging fun hs => ⟨Memory.wf_writeBytes _ _ hs.staging.canonical, hs.staging.below.writeBytes _ ?_⟩
        simp only [writeCountFits, hostRangeWrong, decide_eq_true_eq, Bool.not_eq_false, not_or] at hfits hrange
        simp only [List.length_drop]
        omega

theorem settleMemRead (payload : List Byte) (s : State) : Keeps s (settleMemRead payload s).state := by
  unfold Machine.settleMemRead
  dsimp only
  split
  · exact refl s
  · split
    · exact refl s
    · split <;> exact refl s

theorem settleXfer (payload : List Byte) (s : State) : Keeps s (settleXfer payload s).state := by
  unfold Machine.settleXfer
  split
  · exact refl s
  · split
    · exact refl s
    · next t ht =>
      split
      · exact refl s
      · next hroom =>
        split
        · exact refl s
        · split
          · exact refl s
          · exact createTicket (by omega) (xferTransferOf_fits ht)

theorem settleXferCancel (payload : List Byte) (s : State) : Keeps s (settleXferCancel payload s).state := by
  unfold Machine.settleXferCancel
  split
  · exact refl s
  · split
    · exact refl s
    · exact dropTicket s _

theorem onXfer (s : State) : Keeps s s.onXfer := interpret .xfer settleXfer (fun n s => evaluateTicket s n) s

theorem settlePcSet (payload : List Byte) (s : State) : Keeps s (settlePcSet payload s).state := by
  refine withPacer fun n => ?_
  dsimp only
  split
  · exact refl s
  · next hrun =>
    split
    · exact refl s
    · next mode _ =>
      split
      · exact refl s
      · exact setPacer fun h => h.configure (by simpa using hrun) mode (by have := at2_lt payload 1; omega)

theorem settlePcStart (payload : List Byte) (s : State) : Keeps s (settlePcStart payload s).state :=
  withPacer fun _ => setPacer fun h => h.start

theorem settlePcStop (payload : List Byte) (s : State) : Keeps s (settlePcStop payload s).state := by
  refine withPacer fun n => ?_
  split
  · exact setPacer fun h => h.stop
  · exact refl s

theorem onPacerExpiry (s : State) (n : PacerIx) : Keeps s (s.onPacerExpiry n) := by
  unfold State.onPacerExpiry
  split
  · next hdue =>
    simp only [Pacer.due, Bool.and_eq_true] at hdue
    refine (setPacer fun h => h.expire hdue.1).trans (foldl (fun s c => ?_) _ _)
    unfold expiryVisits
    split
    · exact expiryAt s c
    · exact refl s
  · exact refl s

/-- A port without a transaction enters another state without one (R109, R110). -/
theorem enterFree {s : State} {p : Port} {st : PortState} (hb : s.portState p ≠ .busy) (hr : s.portState p ≠ .recovering)
    (hb' : st ≠ .busy) (hr' : st ≠ .recovering) : Keeps s (s.enterPortState p st) := by
  have h := enterPortState (s := s) (p := p) (e := s.engine p) (st := st)
    (fun h => engineOk_of_free hb' hr' (h.transaction_none hb hr) (h.recovery_none hr))
    fun hs => ⟨flightOk_of_none ((hs.engines p).transaction_none hb hr), fun t ht => hs.sound ht⟩
  rwa [setEngine_engine_self] at h

theorem settlePtEnable (payload : List Byte) (s : State) : Keeps s (settlePtEnable payload s).state := by
  refine withPort fun p => ?_
  split
  · next h =>
    have hp := hearPort_portState s p p
    exact (hearPort s p).trans (enterFree (by rw [hp, h]; decide) (by rw [hp, h]; decide) nofun nofun)
  · exact refl s

theorem settlePtDisable (payload : List Byte) (s : State) : Keeps s (settlePtDisable payload s).state := by
  refine withPort fun p => ?_
  have hp := hearPort_portState s p p
  split
  · next h => exact (hearPort s p).trans (enterFree (by rw [hp, h]; decide) (by rw [hp, h]; decide) nofun nofun)
  · next h => exact (hearPort s p).trans (enterFree (by rw [hp, h]; decide) (by rw [hp, h]; decide) nofun nofun)
  all_goals exact refl s

theorem requestReset (s : State) (p : Port) : Keeps s (s.requestReset p) :=
  ofSetEngine (refl _) rfl rfl rfl rfl rfl rfl

theorem resetPort (s : State) (p : Port) : Keeps s (s.resetPort p) := by
  have hp := hearPort_portState s p p
  have hreq (u : State) : ((u.requestReset p).engine p).portState = u.portState p := by
    simp [State.requestReset, State.portState]
  unfold State.resetPort
  split
  · next h =>
    exact (hearPort s p).trans ((requestReset _ p).trans
      (enterRecovery (by rw [hreq, hp, h]; decide) (by rw [hreq, hp, h]; decide) false))
  · next h =>
    exact (hearPort s p).trans ((requestReset _ p).trans
      (enterRecovery (by rw [hreq, hp, h]; decide) (by rw [hreq, hp, h]; decide) false))
  · refine (requestReset s p).trans ?_
    unfold State.abortGranted
    split
    · exact refl _
    · exact sendAbort _ _ _
  · refine (requestReset s p).trans ?_
    unfold State.abortPending
    split
    · exact refl _
    · exact takeAbortRequest _ _ _ _
  · exact refl s

theorem settlePtReset (payload : List Byte) (s : State) : Keeps s (settlePtReset payload s).state := by
  refine withPort fun p => ?_
  split
  · exact refl s
  · exact resetPort s p

/-- The owner's settlement of each command kind. -/
theorem settleKind (kind : CommandKind) (payload : List Byte) (s : State) : Keeps s (settleKind kind payload s).state := by
  cases kind with
  | ping => exact refl s
  | identify => exact refl s
  | status => exact refl s
  | stats => exact refl s
  | restart => exact refl s
  | abortStart => exact refl s
  | tgtSet => exact settleTgtSet payload s
  | tgtGet => exact withSlot fun _ => refl s
  | tgtRemove => exact settleTgtRemove payload s
  | tgtFence => exact settleTgtFence payload s
  | tgtUnfence => exact settleTgtUnfence payload s
  | memWrite => exact settleMemWrite payload s
  | memRead => exact settleMemRead payload s
  | chConfig => exact settleChConfig payload s
  | chLoad => exact settleChLoad payload s
  | chClear => exact settleChClear payload s
  | chStart => exact settleChStart payload s
  | chStop => exact settleChStop payload s
  | chAbort => exact settleChAbort payload s
  | chResume => exact settleChResume payload s
  | chGet => exact settleChGet payload s
  | pcSet => exact settlePcSet payload s
  | pcStart => exact settlePcStart payload s
  | pcStop => exact settlePcStop payload s
  | pcGet => exact withPacer fun _ => refl s
  | ptEnable => exact settlePtEnable payload s
  | ptDisable => exact settlePtDisable payload s
  | ptReset => exact settlePtReset payload s
  | ptGet => exact withPort fun _ => refl s
  | xfer => exact settleXfer payload s
  | xferCancel => exact settleXferCancel payload s

theorem settleStats (payload : List Byte) (s : State) : Keeps s (settleStats payload s).state := by
  have hclear : Keeps s s.clearStats := by
    refine (link s { s.link with counters := LinkCounters.atReset }).trans
      (ofEngines (fun p h => ?_) fun p hs => ?_)
    · rw [PerPort.get_map]
      exact ⟨h.busy, h.free, h.recovering⟩
    · rw [PerPort.get_map]
      have h := hs.flights p
      exact ⟨⟨h.pending, h.page, h.segment, h.sent, h.received⟩, fun t ht => hs.sound (p := p) ht⟩
  unfold Machine.settleStats
  split
  · exact refl s
  · next clear _ =>
    cases clear
    · exact refl s
    · exact hclear

theorem settleRestart (payload : List Byte) (s : State) : Keeps s (settleRestart payload s).state := out (by exact id)

theorem settleAbortStart (payload : List Byte) (s : State) : Keeps s (settleAbortStart payload s).state := by
  unfold Machine.settleAbortStart
  split
  · exact refl s
  · next hstart =>
    have hreq : Keeps s s.requestStartAbort := ofReplay fun _ h => absurd h hstart
    split
    · exact refl s
    · split
      · exact hreq.trans (sendAbort _ _ _)
      · exact hreq.trans (sendAbort _ _ _)
      · exact hreq
      · exact hreq

end Keeps

end Sys2Proof.Machine

namespace Sys2Proof.Machine

/-! ### The tick (R125) -/

/-- A tick counts an engine's timers, and may begin the START it is before (log entry 17). -/
theorem tick_touches (e : Engine) (held : Bool) :
    ∃ a wait stretch cycle,
      e.tick held = { e with activity := a, waitTimer := wait, stretchTimer := stretch, cycleTimer := cycle }
      ∧ (a = e.activity ∨ a = .formStart ∨ a = .pollStart) := by
  have hbegun : ∀ e : Engine, e.startBegun.activity = e.activity ∨ e.startBegun.activity = .formStart
      ∨ e.startBegun.activity = .pollStart := by
    intro e
    unfold Engine.startBegun
    dsimp only
    split
    · exact .inr (.inl rfl)
    · split
      · exact .inr (.inr rfl)
      · exact .inl rfl
  unfold Engine.tick
  dsimp only
  split
  · exact ⟨_, _, _, _, rfl, .inl rfl⟩
  · split
    · exact ⟨_, _, _, _, rfl, hbegun _⟩
    · exact ⟨_, _, _, _, rfl, .inl rfl⟩

theorem EngineOk.tick {e : Engine} (h : EngineOk e) (held : Bool) : EngineOk (e.tick held) := by
  obtain ⟨a, _, _, _, he, ha⟩ := tick_touches e held
  rw [he]
  refine ⟨fun hb => ⟨(h.busy hb).1, ?_⟩, h.free, h.recovering⟩
  rcases ha with ha | ha | ha <;> dsimp only <;> rw [ha]
  · exact (h.busy hb).2
  · nofun
  · nofun

theorem FlightOk.tick {e : Engine} (h : FlightOk e) (held : Bool) : FlightOk (e.tick held) := by
  obtain ⟨a, _, _, _, he, ha⟩ := tick_touches e held
  rw [he]
  refine ⟨h.pending, h.page, h.segment, fun t k ht ho hb hk => ?_, fun t k ht ho hb hk => ?_⟩ <;> dsimp only at hk
  · rcases ha with ha | ha | ha <;> rw [ha] at hk
    · exact h.sent t k ht ho hb hk
    · cases hk
    · cases hk
  · rcases ha with ha | ha | ha <;> rw [ha] at hk
    · exact h.received t k ht ho hb hk
    · cases hk
    · cases hk

theorem tick_transaction (e : Engine) (held : Bool) : (e.tick held).transaction = e.transaction := by
  obtain ⟨_, _, _, _, he, _⟩ := tick_touches e held
  rw [he]

/-! ### The state after reset (R177) -/

theorem reset_channel (c : ChannelIx) : State.reset.channel c = Channel.atReset := by simp [State.reset, State.channel]
theorem reset_slot (n : SlotIx) : State.reset.slot n = Slot.atReset := by simp [State.reset, State.slot]
theorem reset_pacer (n : PacerIx) : State.reset.pacer n = Pacer.atReset := by simp [State.reset, State.pacer]
theorem reset_engine (p : Port) : State.reset.engine p = Engine.atReset := by cases p <;> rfl
theorem reset_arbiter (p : Port) : State.reset.arbiter p = Arbiter.atReset := by cases p <;> rfl
theorem reset_busy (p : Port) : State.reset.busy.get p = none := by cases p <;> rfl

/-- Every block at its reset value is Ok. -/
theorem ok_reset : Ok State.reset where
  staging :=
    { canonical := rfl
      below := fun _ h => absurd h List.not_mem_nil
      rings := fun c d h => by rw [reset_channel] at h; exact absurd h List.not_mem_nil
      tickets := fun _ h => absurd h List.not_mem_nil
      transactions := fun p t h => by rw [reset_engine] at h; cases h
      boot := fun p t h => by rw [reset_engine] at h; cases h }
  busy p _ _ _ _ h := by rw [reset_busy] at h; cases h
  pool := ⟨by simp only [reset_channel]; rfl, fun c => by rw [reset_channel]; exact Nat.zero_le _⟩
  tickets := ⟨Nat.zero_le _, List.nodup_nil⟩
  targets :=
    { each := fun n t h => by rw [reset_slot] at h; cases h
      distinct := fun n m t u _ h => by rw [reset_slot] at h; cases h }
  pacers n := by rw [reset_pacer]; exact ⟨by decide, nofun, fun _ => ⟨rfl, rfl⟩⟩
  notices := ⟨Nat.zero_le _, Nat.zero_le _, List.nodup_nil, rfl, rfl⟩
  engines p := by rw [reset_engine]; exact engineOk_of_free nofun nofun rfl rfl
  flights p := by rw [reset_engine]; exact flightOk_of_none rfl
  channels c := by rw [reset_channel]; exact channelOk_of_resting (.inl rfl) rfl rfl rfl
  replay := nofun

/-- R180: a read of the boot memory is sound. -/
theorem sound_bootRead (offset length position : Nat) : (bootRead offset length position).Sound :=
  ⟨fun h => absurd rfl h, fun _ => rfl, fun h => by cases h⟩

namespace Keeps

theorem onTimebaseTick (s : State) (stretched : List Port) : Keeps s (s.onTimebaseTick stretched) := by
  have h1 := (link s { s.link with gapTimer := tickTimer s.link.gapTimer }).trans
    (out (o := { s.out with notices := s.out.notices.tick }) tick_keeps_notices)
  refine h1.trans ?_
  generalize hu : ({ s with
    link := { s.link with gapTimer := tickTimer s.link.gapTimer }
    out := { s.out with notices := s.out.notices.tick } } : State) = u
  have h2 : Keeps u { u with channels := u.channels.map Channel.tick } := by
    refine ofChannels (fun c => ?_) fun c h => ?_
    · rw [Fin.getElem_fin, Vector.getElem_map]
      rfl
    · rw [Fin.getElem_fin, Vector.getElem_map]
      exact ⟨h.quiet, h.stopping, h.halted, h.held⟩
  have h3 : ∀ v : State, Keeps v { v with engines := v.engines.zipWith Engine.tick (heldLow stretched) } := by
    refine fun v => ofEngines (fun p h => ?_) fun p hs => ?_ <;> rw [PerPort.get_zipWith]
    · exact h.tick _
    · refine ⟨(hs.flights p).tick _, fun t ht => hs.sound (p := p) ?_⟩
      rwa [tick_transaction] at ht
  have h4 : ∀ v : State, Keeps v { v with pacers := v.pacers.map Pacer.tick } := by
    refine fun v => ofPacers fun n h => ?_
    rw [Fin.getElem_fin, Vector.getElem_map]
    exact h.tick
  have h5 := h2.trans ((h3 _).trans (h4 _))
  subst hu
  exact h5

/-! ### Start-up (R177 to R188) -/

theorem resetBlocks (s : State) (keepLink : Bool) : Keeps s (s.resetBlocks keepLink) :=
  of_ok (ok_reset.of_keeps (unread State.reset s.pending s.powerOnHold s.resetNLow s.straps
    { Link.atReset with counters := if keepLink then s.link.counters else LinkCounters.atReset } _ _ _ _ _))

theorem endStartup (s : State) (outcome : StartOutcome) (failing : Nat) (status : Status) :
    Keeps s (s.endStartup outcome failing status) :=
  (claim s _).trans (ofReplay fun _ _ => ⟨rfl, rfl⟩)

/-- While the system is STARTING the Replay Unit reads the boot memory (R180). -/
theorem startRead {s : State} {r : Replay} (hr : r.system = .starting) (offset length position : Nat) (lines : Lines) :
    Keeps s (({ s with replay := r } : State).beginTransaction .a (bootRead offset length position) lines) :=
  (ofReplay fun _ h => by rw [hr] at h; cases h).trans (beginTransaction lines fun _ => sound_bootRead _ _ _)

theorem beginStartup (s : State) (lines : Lines) : Keeps s (s.beginStartup lines) := by
  unfold State.beginStartup
  split
  · exact startRead rfl 0 8 0 lines
  · exact endStartup s _ _ _

theorem startOperation (s : State) (keepLink : Bool) (straps : Straps) (lines : Lines) :
    Keeps s (s.startOperation keepLink straps lines) := by
  refine (resetBlocks s keepLink).trans ?_
  generalize hu : s.resetBlocks keepLink = u
  have h : Keeps u { u with straps := straps } :=
    unread u u.pending u.powerOnHold u.resetNLow straps u.link u.interp u.slotNews u.nextTicket u.arbiters u.portNews
  have hk := h.trans (beginStartup _ lines)
  subst hu
  exact hk

theorem takeReadRecord (phase : ReplayPhase) (s : State) {f : Record → State → State}
    (hf : ∀ r u, u.replay.system = .starting → Keeps u (f r u)) : Keeps s (takeReadRecord phase s f) := by
  unfold Machine.takeReadRecord
  split
  · exact refl s
  · split
    · next h => exact (ofReplay (r := { s.replay with record := none }) (by exact id)).trans (hf _ _ h.1)
    · exact refl s

theorem onHeaderReadDone (s : State) (lines : Lines) : Keeps s (s.onHeaderReadDone lines) := by
  refine takeReadRecord .header s fun r u hu => ?_
  unfold State.settleHeader
  dsimp only
  split
  · exact endStartup u _ _ _
  split
  · exact endStartup u _ _ _
  split
  · exact endStartup u _ _ _
  split
  · exact endStartup u _ _ _
  split
  · exact endStartup u _ _ _
  · exact startRead (by exact hu) _ _ _ lines

theorem checkBody {s : State} (hs : s.replay.system = .starting) : Keeps s s.checkBody := by
  unfold State.checkBody
  split
  · exact ofReplay fun _ h => by rw [show s.replay.system = .ready from h] at hs; cases hs
  · exact endStartup s _ _ _

theorem onBodyPieceDone (s : State) (lines : Lines) : Keeps s (s.onBodyPieceDone lines) := by
  refine takeReadRecord .body s fun r u hu => ?_
  unfold State.settlePiece
  dsimp only
  split
  · exact endStartup u _ _ _
  split
  · exact endStartup u _ _ _
  split
  · exact startRead (by exact hu) _ _ _ lines
  · exact (ofReplay (by exact id)).trans (checkBody hu)

theorem settleRecord (kindCode : Nat) (payload : List Byte) (s : State) :
    Keeps s (settleRecord kindCode payload s).state := by
  unfold Machine.settleRecord
  split
  · exact refl s
  · split
    · exact refl s
    · exact settleKind _ payload s

theorem evaluated (r : Settled) : Keeps r.state r.evaluated := by
  unfold Settled.evaluated
  split
  · exact refl _
  · exact evaluateTicket _ _

theorem recordDone (s : State) (length : Nat) : Keeps s (s.recordDone length) := by
  unfold State.recordDone
  dsimp only
  generalize hr : ({ s.replay with
    executed := s.replay.executed + 1, pointer := s.replay.pointer + length + 1
    index := s.replay.index + 1 } : Replay) = r
  have h : Keeps s { s with replay := r } := ofReplay fun hs => by subst hr; exact hs
  split
  · exact h.trans (endStartup _ _ _ _)
  · exact h

theorem onScriptRecord (s : State) : Keeps s s.onScriptRecord := by
  unfold State.onScriptRecord State.runRecord State.takeRecordReply
  dsimp only
  split
  · split
    · exact endStartup s _ _ _
    split
    · exact endStartup s _ _ _
    split
    · exact endStartup s _ _ _
    split
    · exact endStartup s _ _ _
    have h := settleRecord s.replay.recordKind s.replay.recordPayload s
    split
    · exact h.trans ((evaluated _).trans (recordDone _ _))
    · exact h.trans (endStartup _ _ _ _)
  · exact refl s

/-! ### The reset causes (R177) -/

theorem powerOnHold (s : State) (b : Bool) : Keeps s { s with powerOnHold := b } :=
  unread s s.pending b s.resetNLow s.straps s.link s.interp s.slotNews s.nextTicket s.arbiters s.portNews

theorem resetNLow (s : State) (b : Bool) : Keeps s { s with resetNLow := b } :=
  unread s s.pending s.powerOnHold b s.straps s.link s.interp s.slotNews s.nextTicket s.arbiters s.portNews

theorem startIfReleased (s : State) (straps : Straps) (lines : Lines) : Keeps s (s.startIfReleased straps lines) := by
  unfold State.startIfReleased
  split
  · exact startOperation s false straps lines
  · exact refl s

theorem onPowerOnReset (s : State) : Keeps s s.onPowerOnReset := (resetBlocks s false).trans (powerOnHold _ true)

theorem onSupplyValid (s : State) (straps : Straps) (lines : Lines) : Keeps s (s.onSupplyValid straps lines) := by
  unfold State.onSupplyValid
  split
  · exact (powerOnHold s false).trans (startIfReleased _ straps lines)
  · exact refl s

theorem onResetNLow (s : State) (micros : Nat) : Keeps s (s.onResetNLow micros) := by
  unfold State.onResetNLow
  split
  · exact refl s
  · exact (resetBlocks s false).trans (resetNLow _ true)

theorem onResetNRelease (s : State) (straps : Straps) (lines : Lines) : Keeps s (s.onResetNRelease straps lines) := by
  unfold State.onResetNRelease
  split
  · exact (resetNLow s false).trans (startIfReleased _ straps lines)
  · exact refl s

theorem onRestartEffect (s : State) (straps : Straps) (lines : Lines) : Keeps s (s.onRestartEffect straps lines) := by
  unfold State.onRestartEffect
  split
  · exact startOperation s true straps lines
  · exact refl s

/-! ### The steps of the table -/

theorem expire (s : State) (x : Expiry) : Keeps s (s.expire x) := by
  cases x with
  | pacer n => exact onPacerExpiry s n
  | pause c => exact onPauseExpiry s c
  | passGap c => exact onPassGapEnd s c
  | linkGap => exact onGapExpiry s
  | retransmit number => exact onRetransmitTimerExpiry s number
  | stretch p => exact onStretchTimeout s p
  | stopClockWait p => exact onStopClockWaitExpiry s p
  | cycleLimit p b => exact onCycleLimitExpiry s p b
  | retryGap p => exact onRetryGapEnd s p
  | recoveryClockWait p => exact onRecoveryClockWaitExpiry s p
  | recoveryGap p => exact onRecoveryGapEnd s p

theorem whenOperating {s t : State} {f : State → State} (hf : ∀ u, Keeps u (f u)) (h : whenOperating s f = .next t) :
    Keeps s t :=
  whenOperating_keeps (P := Keeps s) (fun _ x hu => hu.trans (expire _ x)) (fun u hu => hu.trans (hf u)) (refl s) h

theorem whenDue {s t : State} {x : Expiry} (h : whenDue s x = .next t) : Keeps s t :=
  whenDue_keeps (P := Keeps s) (fun _ x hu => hu.trans (expire _ x)) (refl s) h

/-- A command of the host, settled as a script record of its kind is. -/
theorem command {s t : State} {kind : CommandKind}
    (h : Machine.whenOperating s (Machine.interpretPlain kind (Machine.settleKind kind)) = .next t) : Keeps s t :=
  whenOperating (interpretPlain kind (settleKind kind)) h

theorem exec {i : Instr} {s t : State} (h : exec i s = .next t) : Keeps s t := by
  cases i with
  | powerOnReset => exact Host.Outcome.next.inj h ▸ onPowerOnReset s
  | resetNLow micros => exact Host.Outcome.next.inj h ▸ onResetNLow s micros
  | resetNRelease straps lines => exact Host.Outcome.next.inj h ▸ onResetNRelease s straps lines
  | supplyValid straps lines => exact Host.Outcome.next.inj h ▸ onSupplyValid s straps lines
  | restartEffect straps lines => exact whenOperating (fun u => onRestartEffect u straps lines) h
  | receiveCharacter bits stopHigh => exact whenOperating (fun u => onReceiveCharacter u _ stopHigh) h
  | commandFrame => exact whenOperating onCommandFrame h
  | crcError => exact whenOperating onCrcError h
  | badFrame => exact whenOperating onBadFrame h
  | noticeAck => exact whenOperating onNoticeAck h
  | frameEnd takingFirst => exact whenOperating (fun u => onFrameEnd u takingFirst) h
  | duplicateCommand => exact whenOperating onDuplicateCommand h
  | unknownKind => exact whenOperating onUnknownKind h
  | stats => exact whenOperating (interpretPlain .stats settleStats) h
  | restart => exact whenOperating (interpretPlain .restart settleRestart) h
  | abortStart => exact whenOperating (interpretPlain .abortStart settleAbortStart) h
  | ping => exact command (kind := .ping) h
  | identify => exact command (kind := .identify) h
  | status => exact command (kind := .status) h
  | tgtSet => exact command (kind := .tgtSet) h
  | tgtGet => exact command (kind := .tgtGet) h
  | tgtRemove => exact command (kind := .tgtRemove) h
  | tgtFence => exact command (kind := .tgtFence) h
  | tgtUnfence => exact command (kind := .tgtUnfence) h
  | memWrite => exact command (kind := .memWrite) h
  | memRead => exact command (kind := .memRead) h
  | chConfig => exact command (kind := .chConfig) h
  | chLoad => exact command (kind := .chLoad) h
  | chClear => exact command (kind := .chClear) h
  | chStart => exact command (kind := .chStart) h
  | chStop => exact command (kind := .chStop) h
  | chAbort => exact command (kind := .chAbort) h
  | chResume => exact command (kind := .chResume) h
  | chGet => exact command (kind := .chGet) h
  | pcSet => exact command (kind := .pcSet) h
  | pcStart => exact command (kind := .pcStart) h
  | pcStop => exact command (kind := .pcStop) h
  | pcGet => exact command (kind := .pcGet) h
  | ptEnable => exact command (kind := .ptEnable) h
  | ptDisable => exact command (kind := .ptDisable) h
  | ptReset => exact command (kind := .ptReset) h
  | ptGet => exact command (kind := .ptGet) h
  | xferCancel => exact command (kind := .xferCancel) h
  | xfer => exact whenOperating onXfer h
  | headerReadDone lines => exact whenOperating (fun u => onHeaderReadDone u lines) h
  | bodyPieceDone lines => exact whenOperating (fun u => onBodyPieceDone u lines) h
  | scriptRecord => exact whenOperating onScriptRecord h
  | timebaseTick stretched => exact whenOperating (fun u => onTimebaseTick u stretched) h
  | pacerExpiry n => exact whenDue h
  | pauseExpiry c => exact whenDue h
  | passGapEnd c => exact whenDue h
  | gapExpiry => exact whenDue h
  | retransmitTimerExpiry n => exact whenDue h
  | stretchTimeout p => exact whenDue h
  | stopClockWaitExpiry p => exact whenDue h
  | cycleLimitExpiry p b => exact whenDue h
  | retryGapEnd p => exact whenDue h
  | recoveryClockWaitExpiry p => exact whenDue h
  | recoveryGapEnd p => exact whenDue h
  | channelCompletion c => exact whenOperating (fun u => onChannelCompletion u c) h
  | targetAccounting p => exact whenOperating (fun u => onTargetAccounting u p) h
  | slotAnnouncement n order => exact whenOperating (fun u => onSlotAnnouncement u n order) h
  | portAnnouncement p order => exact whenOperating (fun u => onPortAnnouncement u p order) h
  | ticketCompletion n => exact whenOperating (fun u => onTicketCompletion u n) h
  | grantOccasion p lines => exact whenOperating (fun u => onGrantOccasion u p lines) h
  | byteComplete p bits ack =>
    change execByteComplete p bits ack s = .next t at h
    unfold execByteComplete at h
    split at h
    · cases h
    · exact whenOperating (fun u => onByteComplete u p _ ack) h
  | busConditionFormed p lines =>
    change execBusConditionFormed p lines s = .next t at h
    unfold execBusConditionFormed at h
    split at h
    · cases h
    · exact whenOperating (fun u => onBusConditionFormed u p lines) h
  | busConflict p => exact whenOperating (fun u => onBusConflict u p) h
  | stretchEnd p => exact whenOperating (fun u => onStretchEnd u p) h
  | cyclePollAnswer p ack => exact whenOperating (fun u => onCyclePollAnswer u p ack) h
  | abortRequest p b => exact whenOperating (fun u => onAbortRequest u p b) h
  | clockWaitEnd p dataHigh => exact whenOperating (fun u => onClockWaitEnd u p dataHigh) h
  | recoveryPulse p => exact whenOperating (fun u => onRecoveryPulse u p) h
  | recoveryAttemptEnd p lines => exact whenOperating (fun u => onRecoveryAttemptEnd u p lines) h

/-- Every step keeps every invariant. -/
theorem step {s t : State} (h : step s = .next t) : Keeps s t := by
  unfold Machine.step at h
  split at h
  · exact Host.Outcome.next.inj h ▸ refl s
  · exact (pending s _).trans (exec h)

end Keeps

end Sys2Proof.Machine

namespace Sys2Proof.Machine

/-! ### The invariants along every run (O55, O56, O58, O60) -/

/-- Settles O55: every block at its reset value is Ok. -/
theorem okAtReset : Obligations.OkAtReset := ok_reset

/-- Settles O56, by what every step keeps. -/
theorem tablesKept : Obligations.TablesKept :=
  fun _ _ h => ⟨(Keeps.step h).pool, (Keeps.step h).tickets, (Keeps.step h).targets, (Keeps.step h).pacers⟩

/-- Settles O58, by what every step keeps. -/
theorem channelsKept : Obligations.ChannelsKept :=
  fun _ _ h => ⟨(Keeps.step h).channels, (Keeps.step h).replay⟩

/-- Taking what is due leaves an Ok state Ok. -/
theorem Ok.settled {s : State} (h : Ok s) : Ok s.settled := by
  refine h.of_keeps ?_
  unfold State.settled
  split
  · exact takeDue_keeps (P := Keeps s) (fun _ x hu => hu.trans (.expire _ x)) (.refl s)
  · exact .refl s

/-- R47, R85: a byte sent is one of the transfer's. -/
theorem sourcePosition_lt {e : Engine} {t : Transaction} (ha : e.Aboard t) {k : Nat} (hk : k < e.dataOutLength t) :
    e.sourcePosition t k < t.transfer.position + t.transfer.length := by
  unfold Engine.sourcePosition
  unfold Engine.dataOutLength at hk
  split
  · next hseg =>
    obtain ⟨sg, hsg, _, hle⟩ := ha.segment hseg
    simp only [hsg, hseg, if_true] at hk
    omega
  · next hseg =>
    simp only [hseg, if_false, Bool.false_eq_true] at hk
    split at hk <;> omega

/-- R45, R85: the byte that a BUSY engine is at is at a position of staging memory. -/
theorem Ok.byteInStaging {s : State} (h : Ok s) {p : Port} (hb : s.portState p = .busy) :
    s.byteOutOfStaging p = false := by
  unfold State.byteOutOfStaging
  split
  · rfl
  · next t ht =>
    by_cases ho : t.owner = .replay
    · simp [ho]
    · have hfit := h.staging.transactions p t ht ho
      have hin := hfit.inside
      have hspan : t.transfer.length ≤ t.transfer.span := by
        unfold Transfer.span
        split <;> omega
      have hpos : ∀ a, (s.engine p).stagingPosition t = some a → a < Config.stagingBytes := by
        intro a ha
        unfold Engine.stagingPosition at ha
        split at ha
        · next k hk =>
          have := (h.flights p).received t k ht ho hb hk
          have := (Option.ite_none_right_eq_some.mp ha).2
          simp only [Option.some.injEq] at this
          omega
        · next k hk =>
          have hsent := (h.flights p).sent t k ht ho hb hk
          have := sourcePosition_lt ((h.flights p).aboard ht hb) hsent
          have := Option.some.inj ha
          omega
        all_goals cases ha
      cases hs : (s.engine p).stagingPosition t with
      | none => simp
      | some a =>
        have := hpos a hs
        simp only [Option.any_some, Bool.and_eq_false_iff, decide_eq_false_iff_not]
        omega

/-- R6, R48: a WATCH's block lies inside staging memory. -/
theorem Ok.watchInStaging {s : State} (h : Ok s) (p : Port) : s.watchOutOfStaging p = false := by
  unfold State.watchOutOfStaging
  split
  · rfl
  · next t ht =>
    split
    · next mode hold hop =>
      have ho : t.owner ≠ .replay := fun ho => by rw [h.staging.boot p t ht ho] at hop; cases hop
      have hin := (h.staging.transactions p t ht ho).inside
      simp only [Transfer.span, hop] at hin
      simp only [Bool.and_eq_false_iff, decide_eq_false_iff_not]
      omega
    · rfl
    · rfl

/-- In an Ok state no step raises a fault. -/
theorem exec_next {s : State} (h : Ok s) (i : Instr) : ∃ t, exec i s = .next t := by
  have hw : ∀ f, ∃ t, whenOperating s f = .next t := fun f => ⟨_, rfl⟩
  cases i with
  | byteComplete p bits ack =>
    change ∃ t, execByteComplete p bits ack s = .next t
    unfold execByteComplete
    rw [if_neg]
    · exact hw _
    · simp only [Bool.and_eq_true, decide_eq_true_eq, not_and, Bool.not_eq_true]
      exact fun hb => h.settled.byteInStaging hb.2
  | busConditionFormed p lines =>
    change ∃ t, execBusConditionFormed p lines s = .next t
    unfold execBusConditionFormed
    rw [if_neg]
    · exact hw _
    · simp only [h.settled.watchInStaging p, Bool.and_false, Bool.false_eq_true, not_false_eq_true]
  | _ => exact ⟨_, rfl⟩

/-- Every step of an Ok state answers a next state, which is Ok. -/
theorem step_next {s : State} (h : Ok s) : ∃ t, step s = .next t ∧ Ok t := by
  have hn : ∃ t, step s = .next t := by
    unfold step
    split
    · exact ⟨s, rfl⟩
    · next c rest _ => exact exec_next (h.of_keeps (.pending s rest)) c
  obtain ⟨t, ht⟩ := hn
  exact ⟨t, ht, h.of_keeps (.step ht)⟩

theorem run_succ_of_next {M : Host.Core} {s t : M.State} (h : M.step s = .next t) (k : Nat) :
    M.run (k + 1) s = M.run k t := by
  rw [Host.Core.run, h]

/-- Every run of an Ok state completes, in an Ok state. -/
theorem run_next (k : Nat) {s : State} (h : Ok s) : ∃ t, Sys2Proof.core.run k s = .next t ∧ Ok t := by
  induction k generalizing s with
  | zero => exact ⟨s, rfl, h⟩
  | succ k ih =>
    obtain ⟨t, ht, hok⟩ := step_next h
    obtain ⟨u, hu, hok'⟩ := ih hok
    exact ⟨u, (run_succ_of_next (M := Sys2Proof.core) ht k).trans hu, hok'⟩

/-- Settles O60, by what every step keeps and by induction on the number of steps. -/
theorem everyRunCompletes : Obligations.EveryRunCompletes :=
  ⟨fun _ => step_next, fun commands k => run_next k (ok_reset.of_keeps (.pending State.reset commands))⟩

end Sys2Proof.Machine

/-! SUPPORT. The channel commands: CH_CONFIG, CH_LOAD, CH_CLEAR, CH_START, CH_STOP, CH_ABORT and CH_RESUME (R7 to R11, R24 to R28,
R122), each from what its owner settles. -/

namespace Sys2Proof.Machine

/-! ### A command answered -/

/-- A command that its owner refuses changes link, interpreter and sending side alone (R169). -/
theorem refuses_of {s : State} {kind : CommandKind} {f : CommandFrame} {rest : List CommandFrame}
    (h : Takes s kind f rest) {settle : List Byte → State → Settled} {st : Status}
    (hs : settle f.payload (s.takeOldest rest) = refuse (s.takeOldest rest) st) :
    whenOperating s (interpretPlain kind settle) = .next ((s.takeOldest rest).answer f st []) :=
  interpretPlain_answers h hs

/-- A command that its owner takes is answered OK. -/
theorem answers_of {s t : State} {kind : CommandKind} {f : CommandFrame} {rest : List CommandFrame}
    (h : Takes s kind f rest) {settle : List Byte → State → Settled} {fields : List Byte}
    (hs : settle f.payload (s.takeOldest rest) = taken t fields) :
    whenOperating s (interpretPlain kind settle) = .next (t.answer f .ok fields) :=
  interpretPlain_answers h hs

/-- R2: a channel number in range names its channel. -/
theorem withChannel_of {payload : List Byte} {c : ChannelIx} (h : at1 payload 0 = c.val) (s : State)
    (f : ChannelIx → Settled) : withChannel payload s f = f c := by
  unfold withChannel
  rw [dif_pos (h ▸ c.isLt)]
  exact congrArg f (Fin.ext h)

@[simp] theorem takeOldest_channel (s : State) (rest : List CommandFrame) (c : ChannelIx) :
    (s.takeOldest rest).channel c = s.channel c := rfl

@[simp] theorem takeOldest_poolFree (s : State) (rest : List CommandFrame) : (s.takeOldest rest).poolFree = s.poolFree := rfl

@[simp] theorem takeOldest_channels (s : State) (rest : List CommandFrame) : (s.takeOldest rest).channels = s.channels := rfl

/-! ### The codes of the settings (R191) -/

theorem priorityOf_eq_some_iff (n : Nat) (x : Priority) : priorityOf n = some x ↔ x.code = n := by
  constructor
  · intro h
    unfold priorityOf at h
    split at h <;> cases h <;> rfl
  · rintro rfl
    cases x <;> rfl

theorem channelModeOf_eq_some_iff (n : Nat) (x : ChannelMode) : channelModeOf n = some x ↔ x.code = n := by
  constructor
  · intro h
    unfold channelModeOf at h
    split at h <;> cases h <;> rfl
  · rintro rfl
    cases x <;> rfl

theorem failurePolicyOf_eq_some_iff (n : Nat) (x : FailurePolicy) : failurePolicyOf n = some x ↔ x.code = n := by
  constructor
  · intro h
    unfold failurePolicyOf at h
    split at h <;> cases h <;> rfl
  · rintro rfl
    cases x <;> rfl

theorem pacerSettingOf_eq_some_iff (n : Nat) (x : Option PacerIx) : pacerSettingOf n = some x ↔ pacerSettingCode x = n := by
  unfold pacerSettingOf
  constructor
  · intro h
    split at h
    · next hn => cases h; exact hn.symm
    · split at h
      · cases h; rfl
      · cases h
  · rintro rfl
    cases x with
    | none => rfl
    | some c =>
      have hc := c.isLt
      rw [if_neg (show ¬pacerSettingCode (some c) = 0xFF by simp only [pacerSettingCode]; omega)]
      exact dif_pos hc

theorem wantsOf_eq_some_iff (n : Nat) (w : Wants) : wantsOf n = some w ↔ w.code = n := by
  constructor
  · intro h
    unfold wantsOf at h
    split at h
    · next hn =>
      cases h
      have hall : ∀ n < 16, Wants.code { half := n.testBit 0, pass := n.testBit 1, fail := n.testBit 2,
                                         overrun := n.testBit 3 } = n := by decide
      exact hall n hn
    · cases h
  · rintro rfl
    have hall : ∀ a b c d : Bool,
        wantsOf (Wants.code { half := a, pass := b, fail := c, overrun := d })
          = some { half := a, pass := b, fail := c, overrun := d } := by decide
    exact hall w.half w.pass w.fail w.overrun

/-! ### What each command settles -/

/-- R8, R9, R11: a channel that is not OFF is refused with WRONG_STATE. -/
theorem settle_not_off {kind : CommandKind} (hk : kind ∈ [CommandKind.chConfig, .chLoad, .chClear, .chStart])
    {payload : List Byte} {s : State} {c : ChannelIx} (hc : at1 payload 0 = c.val) (hs : (s.channel c).state ≠ .off) :
    settleKind kind payload s = refuse s .wrongState := by
  simp only [List.mem_cons, List.not_mem_nil, or_false] at hk
  rcases hk with rfl | rfl | rfl | rfl
  · rw [settleKind, settleChConfig, withChannel_of hc, if_pos hs]
  · rw [settleKind, settleChLoad, withChannel_of hc]
    exact if_pos hs
  · rw [settleKind, settleChClear, withChannel_of hc, if_pos hs]
  · rw [settleKind, settleChStart, withChannel_of hc]
    exact if_pos (.inl hs)

theorem settleChStart_empty {payload : List Byte} {s : State} {c : ChannelIx} (hc : at1 payload 0 = c.val)
    (hr : (s.channel c).ring = []) : settleChStart payload s = refuse s .wrongState := by
  rw [settleChStart, withChannel_of hc]
  exact if_pos (.inr hr)

theorem settleChConfig_bad {payload : List Byte} {s : State} {c : ChannelIx} (hc : at1 payload 0 = c.val)
    (ho : (s.channel c).state = .off)
    (hbad : priorityOf (at1 payload 1) = none ∨ channelModeOf (at1 payload 2) = none
      ∨ pacerSettingOf (at1 payload 3) = none ∨ failurePolicyOf (at1 payload 4) = none ∨ wantsOf (at1 payload 5) = none) :
    settleChConfig payload s = refuse s .badValue := by
  unfold settleChConfig
  rw [withChannel_of hc, if_neg (not_not_intro ho)]
  split
  · next h1 h2 h3 h4 h5 =>
    rcases hbad with h | h | h | h | h
    · cases h.symm.trans h1
    · cases h.symm.trans h2
    · cases h.symm.trans h3
    · cases h.symm.trans h4
    · cases h.symm.trans h5
  · rfl

theorem settleChConfig_good {payload : List Byte} {s : State} {c : ChannelIx} (hc : at1 payload 0 = c.val)
    (ho : (s.channel c).state = .off) {pr mo pa fp w} (h1 : priorityOf (at1 payload 1) = some pr)
    (h2 : channelModeOf (at1 payload 2) = some mo) (h3 : pacerSettingOf (at1 payload 3) = some pa)
    (h4 : failurePolicyOf (at1 payload 4) = some fp) (h5 : wantsOf (at1 payload 5) = some w) :
    settleChConfig payload s = taken (s.setChannel c ((s.channel c).configure pr mo pa fp w)) [] := by
  unfold settleChConfig
  rw [withChannel_of hc, if_neg (not_not_intro ho)]
  simp only [h1, h2, h3, h4, h5]

/-- Settles O23: the codes of the settings, then each refusal and the settings taken. -/
theorem channelConfigured : Obligations.ChannelConfigured := by
  refine ⟨priorityOf_eq_some_iff, channelModeOf_eq_some_iff, pacerSettingOf_eq_some_iff, failurePolicyOf_eq_some_iff,
    wantsOf_eq_some_iff, rfl, rfl, rfl, rfl, fun _ => rfl, ?_, fun s f rest c hc => ⟨?_, ?_, ?_⟩⟩
  · rintro ⟨a, b, c, d⟩
    cases a <;> cases b <;> cases c <;> cases d <;> rfl
  · intro kind hk ht hs
    have hr := refuses_of ht (settle_not_off hk hc (s := s.takeOldest rest) hs)
    simp only [List.mem_cons, List.not_mem_nil, or_false] at hk
    rcases hk with rfl | rfl | rfl | rfl <;> exact hr
  · exact fun ht hr => refuses_of ht (settleChStart_empty hc hr)
  · refine fun ht ho => ⟨fun hbad => refuses_of ht (settleChConfig_bad hc ho hbad), ?_⟩
    exact fun pr mo pa fp w h1 h2 h3 h4 h5 => answers_of ht (settleChConfig_good (s := s.takeOldest rest) hc ho h1 h2 h3 h4 h5)

/-! ### CH_LOAD and CH_CLEAR (R8, R9) -/

/-- R8 step 2. -/
theorem settleChLoad_badLength {payload : List Byte} {s : State} {c : ChannelIx} (hc : at1 payload 0 = c.val)
    (ho : (s.channel c).state = .off)
    (h : ¬(1 ≤ at1 payload 2 ∧ at1 payload 2 ≤ 8 ∧ payload.length = 3 + 8 * at1 payload 2)) :
    settleChLoad payload s = refuse s .badLength := by
  unfold settleChLoad
  rw [withChannel_of hc]
  dsimp only
  rw [if_neg (not_not_intro ho), if_pos (by simp only [Config.loadMax]; omega)]

/-- R8 step 3. -/
theorem settleChLoad_badValue {payload : List Byte} {s : State} {c : ChannelIx} (hc : at1 payload 0 = c.val)
    (ho : (s.channel c).state = .off)
    (h : 1 ≤ at1 payload 2 ∧ at1 payload 2 ≤ 8 ∧ payload.length = 3 + 8 * at1 payload 2)
    (hbad : flagOf (at1 payload 1) = none ∨ descriptorsOf (at1 payload 2) (payload.drop 3) = none) :
    settleChLoad payload s = refuse s .badValue := by
  rw [settleChLoad, withChannel_of hc]
  dsimp only
  rw [if_neg (not_not_intro ho), if_neg (by simp only [Config.loadMax]; omega)]
  split
  · next h1 h2 =>
    rcases hbad with hb | hb
    · cases hb.symm.trans h1
    · cases hb.symm.trans h2
  · rfl

/-- R8 steps 4 and 5. -/
theorem settleChLoad_good {payload : List Byte} {s : State} {c : ChannelIx} (hc : at1 payload 0 = c.val)
    (ho : (s.channel c).state = .off)
    (h : 1 ≤ at1 payload 2 ∧ at1 payload 2 ≤ 8 ∧ payload.length = 3 + 8 * at1 payload 2) {first : Bool}
    {ds : List Descriptor} (hfirst : flagOf (at1 payload 1) = some first)
    (hds : descriptorsOf (at1 payload 2) (payload.drop 3) = some ds) :
    settleChLoad payload s =
      if s.hasRoom c first (at1 payload 2) then
        taken ((if first then s.releaseRing c else s).appendRing c ds)
          (byte1 (((if first then s.releaseRing c else s).appendRing c ds).channel c).ring.length
            ++ byte1 ((if first then s.releaseRing c else s).appendRing c ds).poolFree)
      else refuse s .noRoom := by
  rw [settleChLoad, withChannel_of hc]
  dsimp only
  rw [if_neg (not_not_intro ho), if_neg (by simp only [Config.loadMax]; omega)]
  simp only [hfirst, hds]

/-- R8 step 4: the room asked for, by what the ring keeps and what the pool then has. -/
theorem hasRoom_iff (s : State) (c : ChannelIx) (first : Bool) (k : Nat) :
    s.hasRoom c first k = true ↔
      k ≤ (if first then s.poolFree + (s.channel c).ring.length else s.poolFree)
      ∧ (if first then [] else (s.channel c).ring).length + k ≤ 32 := by
  unfold State.hasRoom
  cases first <;> simp [Config.ringMax]

/-- R8 step 5: what loading leaves: the ring kept with the descriptors after it, and the pool without them. -/
theorem appendRing_eq (s : State) (c : ChannelIx) (first : Bool) (ds : List Descriptor) :
    (if first then s.releaseRing c else s).appendRing c ds =
      { s with
        poolFree := (if first then s.poolFree + (s.channel c).ring.length else s.poolFree) - ds.length
        channels := s.channels.set c
          { s.channel c with
            ring := (if first then [] else (s.channel c).ring) ++ ds
            position := if first then 0 else (s.channel c).position
            doneInPass := if first then 0 else (s.channel c).doneInPass } } := by
  cases first
  · rfl
  · simp only [if_true, State.appendRing, State.releaseRing, setChannel_channel_same, setChannel_poolFree]
    simp only [State.setChannel, Vector.set_set]

theorem appendRing_ring (s : State) (c : ChannelIx) (first : Bool) (ds : List Descriptor) :
    (((if first then s.releaseRing c else s).appendRing c ds).channel c).ring
      = (if first then [] else (s.channel c).ring) ++ ds := by
  cases first <;> simp [State.appendRing, State.releaseRing]

theorem settleChClear_off {payload : List Byte} {s : State} {c : ChannelIx} (hc : at1 payload 0 = c.val)
    (ho : (s.channel c).state = .off) : settleChClear payload s = taken (s.releaseRing c) [] := by
  rw [settleChClear, withChannel_of hc, if_neg (not_not_intro ho)]

/-- Settles O24: the bytes of a descriptor, of several, and of those reported; then each course of CH_LOAD, and CH_CLEAR. -/
theorem ringLoadedAndCleared : Obligations.RingLoadedAndCleared := by
  refine ⟨fun _ _ => ⟨rfl, rfl⟩, flagOf_eq_some_iff, rfl, descriptorOf_eq_some_iff, fun b n d ds => ⟨rfl, ?_⟩,
    fun t => ?_, fun _ => rfl, fun d => descriptorOf_bytes, fun ds => descriptorsOf_bytes,
    fun s f rest c hc ho => ⟨fun ht => ⟨?_, ?_, ?_⟩, fun ht => ?_⟩⟩
  · rw [descriptorsOf_succ_eq_some_iff]
    constructor
    · rintro ⟨_, _, h, hd, hr⟩
      obtain ⟨rfl, rfl⟩ := List.cons.inj h
      exact ⟨hd, hr⟩
    · exact fun ⟨hd, hr⟩ => ⟨d, ds, rfl, hd, hr⟩
  · obtain ⟨op, slot, offset, length, position⟩ := t
    cases op with
    | read => rfl
    | write => rfl
    | watch mode hold => cases hold <;> rfl
  · exact fun hbad => refuses_of ht (settleChLoad_badLength hc ho hbad)
  · exact fun hfit hbad => refuses_of ht (settleChLoad_badValue hc ho hfit hbad)
  · intro first ds hfit hfirst hds kept free
    have hlen := (descriptorsOf_eq_some hds).1
    have hsettle := settleChLoad_good (s := s.takeOldest rest) hc ho hfit hfirst hds
    have hroom := hasRoom_iff (s.takeOldest rest) c first (at1 f.payload 2)
    refine ⟨hlen, fun hno => refuses_of ht (hsettle.trans (if_neg ?_)), fun hfree hmax => ?_⟩
    · rw [hroom]
      change ¬(_ ≤ free ∧ kept.length + _ ≤ 32)
      omega
    · rw [if_pos (hroom.mpr ⟨hfree, hmax⟩), appendRing_ring, appendRing_eq, List.length_append, hlen] at hsettle
      exact answers_of ht hsettle
  · exact answers_of ht (settleChClear_off (s := s.takeOldest rest) hc ho)

/-! ### CH_START (R11, R12) -/

/-- R11: with a pacer bound the channel waits PACED. -/
theorem settleChStart_paced {payload : List Byte} {s : State} {c : ChannelIx} (hc : at1 payload 0 = c.val)
    (ho : (s.channel c).state = .off) (hr : (s.channel c).ring ≠ []) {n : PacerIx} (hp : (s.channel c).pacer = some n) :
    settleChStart payload s =
      taken (s.setChannel c { s.channel c with state := .paced, position := 0, doneInPass := 0, head := .none }) [1] := by
  rw [settleChStart, withChannel_of hc]
  dsimp only
  rw [if_neg (by simp [ho, hr]), hp]
  simp only [takenWithState, setChannel_channel_same]
  rfl

/-- R12: without one a pass begins. -/
theorem settleChStart_runs {payload : List Byte} {s : State} {c : ChannelIx} (hc : at1 payload 0 = c.val)
    (ho : (s.channel c).state = .off) (hr : (s.channel c).ring ≠ []) (hp : (s.channel c).pacer = none) :
    settleChStart payload s = takenWithState (s.beginPass false c) c := by
  rw [settleChStart, withChannel_of hc]
  dsimp only
  rw [if_neg (by simp [ho, hr]), hp]

/-- Settles O25: CH_START with a pacer bound and without one. -/
theorem channelStarted : Obligations.ChannelStarted := fun s _ rest _ ht hc ho hr =>
  ⟨fun _ hp => answers_of ht (settleChStart_paced (s := s.takeOldest rest) hc ho hr hp),
    fun hp => answers_of ht (settleChStart_runs (s := s.takeOldest rest) hc ho hr hp)⟩

/-! ### CH_STOP and CH_ABORT (R27, R28) -/

theorem stopChannel_off {s : State} {c : ChannelIx} (h : (s.channel c).state = .off) : s.stopChannel c = s := by
  simp only [State.stopChannel, h]

/-- R27: a channel with nothing on a port goes to OFF. -/
theorem stopChannel_goOff {s : State} {c : ChannelIx} (hh : ∀ p, (s.channel c).head ≠ .onPort p)
    (ho : (s.channel c).state ≠ .off) (hs : (s.channel c).state ≠ .stopping) :
    s.stopChannel c = s.setChannel c (s.channel c).goOff := by
  unfold State.stopChannel
  dsimp only
  split
  · next h => exact absurd h ho
  · next h => exact absurd h hs
  · rfl
  · rfl
  · split
    · next p hp => exact absurd hp (hh p)
    all_goals rfl

/-- R27: a channel with its head on a port is STOPPING. -/
theorem stopChannel_onPort {s : State} {c : ChannelIx} {p : Port} (hh : (s.channel c).head = .onPort p)
    (hs : (s.channel c).state = .running ∨ (s.channel c).state = .stopping) :
    s.stopChannel c = s.setChannel c { s.channel c with state := .stopping } := by
  rcases hs with hs | hs
  · simp only [State.stopChannel, hs, hh]
  · have hself : { s.channel c with state := .stopping } = s.channel c := by rw [← hs]
    rw [hself, setChannel_channel_self]
    simp only [State.stopChannel, hs]

theorem abortChannel_eq_stop {s : State} {c : ChannelIx} (hh : ∀ p, (s.channel c).head ≠ .onPort p) :
    s.abortChannel c = s.stopChannel c := by
  unfold State.abortChannel
  dsimp only
  split
  · next p hp => exact absurd hp (hh p)
  all_goals rfl

theorem abortChannel_onPort {s : State} {c : ChannelIx} {p : Port} (hh : (s.channel c).head = .onPort p) :
    s.abortChannel c = (s.stopChannel c).sendAbort p (.channel c) := by
  simp only [State.abortChannel, hh]

theorem settleChStop_of {payload : List Byte} {c : ChannelIx} (hc : at1 payload 0 = c.val) (s : State) :
    settleChStop payload s = takenWithState (s.stopChannel c) c := by
  rw [settleChStop, withChannel_of hc]

theorem settleChAbort_of {payload : List Byte} {c : ChannelIx} (hc : at1 payload 0 = c.val) (s : State) :
    settleChAbort payload s = takenWithState (s.abortChannel c) c := by
  rw [settleChAbort, withChannel_of hc]

/-- The reply of a command that leaves the channel so. -/
theorem takenWithState_of {s : State} {c : ChannelIx} {st : ChannelState} (h : (s.channel c).state = st) :
    takenWithState s c = taken s [BitVec.ofNat 8 st.code] := by
  rw [takenWithState, h]
  rfl

/-- Settles O27: each state of the channel, with its head on a port and not. -/
theorem channelStoppedAndAborted : Obligations.ChannelStoppedAndAborted := by
  intro s f rest c hc off
  refine ⟨fun kind hk ht hh => ?_, fun p hp hs => ⟨fun ht => ?_, fun ht => ?_⟩⟩
  · have hstop : ∀ st t, (s.takeOldest rest).stopChannel c = t → (t.channel c).state = st →
        exec kind.step s = .next (t.answer f .ok [BitVec.ofNat 8 st.code]) := by
      intro st t hst hstate
      simp only [List.mem_cons, List.not_mem_nil, or_false] at hk
      rcases hk with rfl | rfl
      · exact answers_of ht (by rw [settleChStop_of hc, hst, takenWithState_of hstate])
      · exact answers_of ht
          (by rw [settleChAbort_of hc, abortChannel_eq_stop (s := s.takeOldest rest) hh, hst, takenWithState_of hstate])
    refine ⟨fun ho => hstop .off _ (stopChannel_off ho) ho, fun ho hst => ?_⟩
    exact hstop .off _ (stopChannel_goOff (s := s.takeOldest rest) hh ho hst)
      (congrArg Channel.state (setChannel_channel_same (s.takeOldest rest) c off))
  · have hstop := stopChannel_onPort (s := s.takeOldest rest) hp hs
    refine answers_of ht ?_
    rw [settleChStop_of hc, hstop, takenWithState_of (st := .stopping) (by rw [setChannel_channel_same])]
    rfl
  · have hstop := stopChannel_onPort (s := s.takeOldest rest) hp hs
    refine answers_of ht ?_
    rw [settleChAbort_of hc, abortChannel_onPort (s := s.takeOldest rest) hp, hstop,
      takenWithState_of (st := .stopping) (by simp [State.sendAbort])]
    rfl

/-! ### CH_RESUME (R24 to R26, R122) -/

/-- What CH_RESUME settles on a HALTED channel, by the flag and the reason. -/
theorem settleChResume_halted {payload : List Byte} {s : State} {c : ChannelIx} (hc : at1 payload 0 = c.val)
    (hs : (s.channel c).state = .halted) {skip : Bool} (hf : at1 payload 1 = if skip then 1 else 0) :
    settleChResume payload s =
      if (s.channel c).haltReason = some .watchHold then takenWithState (s.releaseHold c) c
      else if skip then takenWithState (s.skipHead c) c
      else takenWithState (s.retryHead c) c := by
  rw [settleChResume, withChannel_of hc, (flagOf_eq_some_iff _ skip).mpr hf]
  dsimp only
  rw [if_neg (not_not_intro hs)]

theorem settleChResume_badValue {payload : List Byte} {s : State} {c : ChannelIx} (hc : at1 payload 0 = c.val)
    (hf : 1 < at1 payload 1) : settleChResume payload s = refuse s .badValue := by
  rw [settleChResume, withChannel_of hc, (flagOf_eq_none_iff _).mpr hf]

theorem exists_flag_of_le_one {n : Nat} (h : n ≤ 1) : ∃ skip : Bool, n = if skip then 1 else 0 := by
  rcases Nat.le_one_iff_eq_zero_or_eq_one.mp h with rfl | rfl
  · exact ⟨false, rfl⟩
  · exact ⟨true, rfl⟩

theorem settleChResume_wrongState {payload : List Byte} {s : State} {c : ChannelIx} (hc : at1 payload 0 = c.val)
    (hf : at1 payload 1 ≤ 1) (hs : (s.channel c).state ≠ .halted) :
    settleChResume payload s = refuse s .wrongState := by
  obtain ⟨skip, hskip⟩ := exists_flag_of_le_one hf
  rw [settleChResume, withChannel_of hc, (flagOf_eq_some_iff _ skip).mpr hskip]
  dsimp only
  rw [if_pos hs]

/-- R122: after a watch hold the command takes no account of its flag. -/
theorem settleChResume_watchHold {payload : List Byte} {s : State} {c : ChannelIx} (hc : at1 payload 0 = c.val)
    (hs : (s.channel c).state = .halted) (hf : at1 payload 1 ≤ 1) (hr : (s.channel c).haltReason = some .watchHold) :
    settleChResume payload s = takenWithState (s.releaseHold c) c := by
  obtain ⟨skip, hskip⟩ := exists_flag_of_le_one hf
  rw [settleChResume_halted hc hs hskip, if_pos hr]

/-! ### The course after a pass (R21) -/

theorem afterPass_once {s : State} {c : ChannelIx} (hm : (s.channel c).mode = .once) :
    s.afterPass c = s.setChannel c { s.channel c with state := .off, head := .none } := by
  simp only [State.afterPass, hm]

theorem afterPass_paced {s : State} {c : ChannelIx} (hm : (s.channel c).mode = .circular)
    (hp : (s.channel c).pacer ≠ none) :
    s.afterPass c = s.setChannel c { s.channel c with state := .paced, head := .none } := by
  obtain ⟨n, hn⟩ := Option.ne_none_iff_exists'.mp hp
  simp only [State.afterPass, hm, hn]

theorem afterPass_gap {s : State} {c : ChannelIx} (hm : (s.channel c).mode = .circular) (hp : (s.channel c).pacer = none) :
    s.afterPass c =
      s.setChannel c { s.channel c with state := .running, head := .none, passGap := some 1 } := by
  simp only [State.afterPass, hm, hp]

/-- R122: the pass end held is taken up with the hold released. -/
theorem releaseHold_passEnd {s : State} {c : ChannelIx} (hh : (s.channel c).heldPassEnd = true) :
    s.releaseHold c =
      (s.setChannel c { s.channel c with state := .running, haltReason := none, heldPassEnd := false }).afterPass c := by
  simp only [State.releaseHold, hh, if_true]

/-- R122: without one the channel goes on from its position. -/
theorem releaseHold_goesOn {s : State} {c : ChannelIx} (hh : (s.channel c).heldPassEnd = false) :
    s.releaseHold c =
      (s.setChannel c { s.channel c with state := .running, haltReason := none }).serveHead false c := by
  simp only [State.releaseHold, hh, Bool.false_eq_true, if_false]

theorem releaseHold_once {s : State} {c : ChannelIx} (hh : (s.channel c).heldPassEnd = true)
    (hm : (s.channel c).mode = .once) :
    s.releaseHold c = s.setChannel c
      { s.channel c with state := .off, haltReason := none, heldPassEnd := false, head := .none } := by
  rw [releaseHold_passEnd hh, afterPass_once (by rw [setChannel_channel_same]; exact hm), setChannel_channel_same,
    setChannel_setChannel]

theorem releaseHold_paced {s : State} {c : ChannelIx} (hh : (s.channel c).heldPassEnd = true)
    (hm : (s.channel c).mode = .circular) (hp : (s.channel c).pacer ≠ none) :
    s.releaseHold c = s.setChannel c
      { s.channel c with state := .paced, haltReason := none, heldPassEnd := false, head := .none } := by
  rw [releaseHold_passEnd hh, afterPass_paced (by rw [setChannel_channel_same]; exact hm)
    (by rw [setChannel_channel_same]; exact hp), setChannel_channel_same, setChannel_setChannel]

theorem releaseHold_gap {s : State} {c : ChannelIx} (hh : (s.channel c).heldPassEnd = true)
    (hm : (s.channel c).mode = .circular) (hp : (s.channel c).pacer = none) :
    s.releaseHold c = s.setChannel c
      { s.channel c with state := .running, haltReason := none, heldPassEnd := false, head := .none
                         passGap := some 1 } := by
  rw [releaseHold_passEnd hh, afterPass_gap (by rw [setChannel_channel_same]; exact hm)
    (by rw [setChannel_channel_same]; exact hp), setChannel_channel_same, setChannel_setChannel]

/-- Settles O28: each refusal, then a retry, a skip, and each course after a watch hold. -/
theorem channelResumed : Obligations.ChannelResumed := by
  intro s f rest c ht hc
  refine ⟨fun hf => refuses_of ht (settleChResume_badValue hc hf),
    fun hf hs => refuses_of ht (settleChResume_wrongState (s := s.takeOldest rest) hc hf hs), ?_⟩
  rintro released rfl hs
  have hpassEnd {t : State} {st : ChannelState} (hf : at1 f.payload 1 ≤ 1)
      (hr : (s.channel c).haltReason = some .watchHold) (hrel : (s.takeOldest rest).releaseHold c = t)
      (hst : (t.channel c).state = st) : exec .chResume s = .next (t.answer f .ok [BitVec.ofNat 8 st.code]) :=
    answers_of ht (by
      rw [settleChResume_watchHold (s := s.takeOldest rest) hc hs hf hr, hrel, takenWithState_of hst])
  refine ⟨fun hf hr => answers_of ht ?_, fun hf hr => answers_of ht ?_, fun hf hr hh hm => ?_, fun hf hr hh hm hp => ?_,
    fun hf hr hh hm hp => ?_, fun hf hr hh => answers_of ht ?_⟩
  · rw [settleChResume_halted (s := s.takeOldest rest) (skip := false) hc hs hf,
      if_neg (by rw [takeOldest_channel, hr]; decide)]
    rfl
  · rw [settleChResume_halted (s := s.takeOldest rest) (skip := true) hc hs hf,
      if_neg (by rw [takeOldest_channel, hr]; decide)]
    rfl
  · exact hpassEnd hf hr (releaseHold_once (s := s.takeOldest rest) hh hm)
      (congrArg Channel.state (setChannel_channel_same _ c _))
  · exact hpassEnd hf hr (releaseHold_paced (s := s.takeOldest rest) hh hm hp)
      (congrArg Channel.state (setChannel_channel_same _ c _))
  · exact hpassEnd hf hr (releaseHold_gap (s := s.takeOldest rest) hh hm hp)
      (congrArg Channel.state (setChannel_channel_same _ c _))
  · rw [settleChResume_watchHold (s := s.takeOldest rest) hc hs hf hr, releaseHold_goesOn (s := s.takeOldest rest) hh]
    rfl

end Sys2Proof.Machine

/-! SUPPORT. The service of a head, its end, and the completions and announcements that lead to it (R12 to R23, R29, R39, R69, R107,
R120, R121). -/

namespace Sys2Proof.Machine

/-! ### The outcome of an evaluation (R15, R16) -/

/-- R16: the range is wrong if it passes the extent, and on a STREAM target also if it does not begin at 0. -/
theorem rangeWrong_iff (t : Transfer) (d : Definition) :
    rangeWrong t d = true ↔ d.extent < t.offset + t.length ∨ d.kind = .stream ∧ t.offset ≠ 0 := by
  simp only [rangeWrong, Bool.or_eq_true, Bool.and_eq_true, beq_iff_eq, decide_eq_true_eq]
  constructor
  · rintro (h | ⟨hk, h | h⟩)
    · exact .inl h
    · exact .inr ⟨hk, h⟩
    · exact .inl (by omega)
  · rintro (h | ⟨hk, h⟩)
    · exact .inl h
    · exact .inr ⟨hk, .inl h⟩

/-- R15 items 2 to 5: the reasons for which a transfer fails at once, in their order. -/
inductive FailsAtOnce (s : State) (t : Transfer) : Result → Prop where
  | vacant : (s.slot t.slot).target = none → FailsAtOnce s t .targetVacant
  | fenced {g : Target} : (s.slot t.slot).target = some g → g.standing = .fenced → FailsAtOnce s t .targetFenced
  | failed {g : Target} : (s.slot t.slot).target = some g → g.standing ≠ .fenced →
      s.portState g.defn.port = .failed → FailsAtOnce s t .portFailed
  | range {g : Target} : (s.slot t.slot).target = some g → g.standing ≠ .fenced →
      s.portState g.defn.port ≠ .failed → rangeWrong t g.defn = true → FailsAtOnce s t .range

theorem evaluateTransfer_fails {s : State} {t : Transfer} {r : Result} (h : FailsAtOnce s t r) :
    evaluateTransfer s t = .fails r := by
  cases h with
  | vacant hn => simp only [evaluateTransfer, hn]
  | fenced hg hs => simp only [evaluateTransfer, hg, hs, if_true]
  | failed hg hs hp => simp only [evaluateTransfer, hg, hs, hp, if_true, if_false]
  | range hg hs hp hr => simp only [evaluateTransfer, hg, hs, hp, hr, if_true, if_false]

/-- R15 items 6 and 7: a transfer with none of these waits for a DISABLED port and is a candidate at any other. -/
theorem evaluateTransfer_served {s : State} {t : Transfer} {g : Target} (hg : (s.slot t.slot).target = some g)
    (hs : g.standing ≠ .fenced) (hp : s.portState g.defn.port ≠ .failed) (hr : rangeWrong t g.defn = false) :
    evaluateTransfer s t =
      if s.portState g.defn.port = .disabled then .waits else .candidate g.defn.port := by
  simp only [evaluateTransfer, hg, hs, hp, hr, if_false, Bool.false_eq_true]

/-! ### The service of a head (R15, R18, R22, R23, R57, R58) -/

/-- Without a descriptor at the position there is no head to serve. -/
theorem serveHead_none {s : State} {inTick : Bool} {c : ChannelIx} (h : (s.channel c).headDescriptor = none) :
    s.serveHead inTick c = s := by
  have hlen := List.getElem?_eq_none_iff.mp h
  rw [State.serveHead, Nat.sub_eq_zero_of_le hlen]
  rfl

/-- With one, the head is evaluated, with fuel for the heads after it. -/
theorem serveHead_some {s : State} {inTick : Bool} {c : ChannelIx} {d : Descriptor}
    (h : (s.channel c).headDescriptor = some d) :
    s.serveHead inTick c =
      evaluateHead inTick c ((s.channel c).ring.length - ((s.channel c).position + 1) + 1) s := by
  obtain ⟨hlt, _⟩ := List.getElem?_eq_some_iff.mp h
  rw [State.serveHead]
  congr 1
  omega

theorem headTransfer_of {ch : Channel} {t : Transfer} (h : ch.headDescriptor = some (.transfer t)) :
    ch.headTransfer = some t := by simp only [Channel.headTransfer, h]

theorem headSlot_of {ch : Channel} {t : Transfer} (h : ch.headDescriptor = some (.transfer t)) : ch.headSlot = t.slot := by
  simp only [Channel.headSlot, headTransfer_of h, Option.map_some, Option.getD_some]

theorem serveHead_pauses {s : State} {inTick : Bool} {c : ChannelIx} {ms : Nat}
    (h : (s.channel c).headDescriptor = some (.pause ms)) :
    s.serveHead inTick c =
      s.setChannel c { s.channel c with head := .pausing, pauseTimer := some (intervalTicks inTick ms) } := by
  rw [serveHead_some h, evaluateHead, h]
  rfl

theorem serveHead_waits {s : State} {inTick : Bool} {c : ChannelIx} {t : Transfer}
    (h : (s.channel c).headDescriptor = some (.transfer t)) (he : evaluateTransfer s t = .waits) :
    s.serveHead inTick c = s.setChannel c { s.channel c with head := .waiting } := by
  rw [serveHead_some h, evaluateHead, h]
  simp only [evaluateDescriptor, he]

theorem serveHead_candidate {s : State} {inTick : Bool} {c : ChannelIx} {t : Transfer} {p : Port}
    (h : (s.channel c).headDescriptor = some (.transfer t)) (he : evaluateTransfer s t = .candidate p) :
    s.serveHead inTick c = s.offerHead c p := by
  rw [serveHead_some h, evaluateHead, h]
  simp only [evaluateDescriptor, he]

/-- A failure stored and counted is one change of the channel's record (R19). -/
theorem countFailure_storeRecord (s : State) (c : ChannelIx) (r : Record) :
    (s.storeRecord c r).countFailure c = s.setChannel c
      { s.channel c with
        head := .none, pauseTimer := none, arriving := none, lastResult := some r
        failureCount := min ((s.channel c).failureCount + 1) 65535 } := by
  rw [State.countFailure, storeRecord_channel, State.storeRecord, setChannel_setChannel]
  rfl

/-- What a record stored and counted leaves of the channel. -/
theorem countFailure_storeRecord_channel (s : State) (c : ChannelIx) (r : Record) :
    ((s.storeRecord c r).countFailure c).channel c =
      { s.channel c with
        head := .none, pauseTimer := none, arriving := none, lastResult := some r
        failureCount := min ((s.channel c).failureCount + 1) 65535 } := by
  rw [countFailure_storeRecord, setChannel_channel_same]

/-- R23, after a failure stored and counted. -/
theorem haltChannel_countFailure_storeRecord (s : State) (c : ChannelIx) (r : Record) :
    ((s.storeRecord c r).countFailure c).haltChannel c r = (s.setChannel c
      { s.channel c with
        state := .halted, haltReason := some .failure, head := .none, pauseTimer := none, arriving := none
        lastResult := some r
        failureCount := min ((s.channel c).failureCount + 1) 65535 }).claim
      (.channelHalted c (s.channel c).position r.result (s.channel c).headSlot) := by
  rw [State.haltChannel, countFailure_storeRecord_channel, countFailure_storeRecord, setChannel_setChannel]
  congr 2

/-- R22: the notice of a failure stored and counted names the head that failed. -/
theorem claimDescFailed_countFailure_storeRecord (s : State) (c : ChannelIx) (r : Record) :
    ((s.storeRecord c r).countFailure c).claimDescFailed c r = ((s.storeRecord c r).countFailure c).claimIf
      (s.channel c).wants.fail
      (.descFailed c (s.channel c).position r.result (s.channel c).headSlot r.attempts) := by
  rw [State.claimDescFailed, countFailure_storeRecord_channel]
  congr 2

theorem atLast_iff (ch : Channel) : ch.atLast = true ↔ ch.ring.length ≤ ch.position + 1 := by
  rw [Channel.atLast, decide_eq_true_iff]

/-- While it is not the last of the ring, a finished head moves the position on by one (R20). -/
theorem finishHead_position {s : State} {c : ChannelIx} (h : (s.channel c).atLast = false) :
    ((s.finishHead c).channel c).position = (s.channel c).position + 1 := by
  simp only [State.finishHead, h, Bool.false_eq_true, if_false, claimIf_channel, setChannel_channel_same]

/-- A finished head is followed by the rest of the pass, whose heads are those left of the ring. -/
theorem finishAndGoOn_eq (s : State) (inTick : Bool) (c : ChannelIx) :
    s.finishAndGoOn inTick c =
      if (s.channel c).atLast then (s.finishHead c).afterPass c
      else evaluateHead inTick c ((s.channel c).ring.length - ((s.channel c).position + 1)) (s.finishHead c) := by
  unfold State.finishAndGoOn
  dsimp only
  split
  · rfl
  · next hlast =>
    rw [State.serveHead, (ServesOnly.finishHead s c).ring, finishHead_position (Bool.eq_false_iff.mpr hlast)]

/-- R19, R23: a head that fails at once under HALT takes its record and halts its channel. -/
theorem serveHead_halts {s : State} {inTick : Bool} {c : ChannelIx} {t : Transfer} {r : Result}
    (h : (s.channel c).headDescriptor = some (.transfer t)) (he : evaluateTransfer s t = .fails r)
    (hp : (s.channel c).policy = .halt) :
    s.serveHead inTick c = ((s.storeRecord c { result := r, moved := 0, attempts := 0 }).countFailure c).haltChannel c
      { result := r, moved := 0, attempts := 0 } := by
  rw [serveHead_some h, evaluateHead, h]
  simp only [evaluateDescriptor, he, hp]

/-- R19, R22: under SKIP it takes its record, and is finished. -/
theorem serveHead_skips {s : State} {inTick : Bool} {c : ChannelIx} {t : Transfer} {r : Result}
    (h : (s.channel c).headDescriptor = some (.transfer t)) (he : evaluateTransfer s t = .fails r)
    (hp : (s.channel c).policy = .skip) :
    s.serveHead inTick c =
      (((s.storeRecord c { result := r, moved := 0, attempts := 0 }).countFailure c).claimDescFailed c
        { result := r, moved := 0, attempts := 0 }).finishAndGoOn inTick c := by
  rw [serveHead_some h, evaluateHead, h]
  simp only [evaluateDescriptor, he, hp]
  rw [finishAndGoOn_eq, claimDescFailed_channel, countFailure_storeRecord_channel]
  rfl

theorem offerHead_again {s : State} {c : ChannelIx} {p : Port} (h : (s.channel c).head = .candidate p) :
    s.offerHead c p = s := if_pos h

/-- R57, R58: a head offered to an IDLE port gives it a grant occasion. -/
theorem offerHead_new {s : State} {c : ChannelIx} {p : Port} (h : (s.channel c).head ≠ .candidate p) :
    s.offerHead c p =
      { s with
        channels := s.channels.set c { s.channel c with head := .candidate p }
        arbiters :=
          if s.portState p = .idle then s.arbiters.set p { s.arbiter p with occasion := true } else s.arbiters } := by
  rw [State.offerHead, if_neg h, State.raiseOccasionIfIdle]
  by_cases hi : s.portState p = .idle
  · rw [if_pos hi]
    exact if_pos hi
  · rw [if_neg hi]
    exact if_neg hi

/-- Settles O26: by what the evaluation of the head answers. -/
theorem headServed : Obligations.HeadServed := by
  refine ⟨fun s inTick c => serveHead_none, fun s inTick c d hd => ⟨?_, ?_, ?_⟩⟩
  · rintro ms rfl
    exact serveHead_pauses hd
  · rintro t r rfl hr
    have hf : FailsAtOnce s t r := by
      rcases hr with ⟨hn, rfl⟩ | ⟨g, hg, hs, rfl⟩ | ⟨g, hg, hs, hp, rfl⟩ | ⟨g, hg, hs, hp, hr, rfl⟩
      · exact .vacant hn
      · exact .fenced hg hs
      · exact .failed hg hs hp
      · exact .range hg hs hp ((rangeWrong_iff t g.defn).mpr hr)
    have he := evaluateTransfer_fails hf
    refine ⟨fun hp => ?_, fun hp => ?_⟩
    · rw [serveHead_halts hd he hp, haltChannel_countFailure_storeRecord, headSlot_of hd]
    · rw [serveHead_skips hd he hp, claimDescFailed_countFailure_storeRecord, headSlot_of hd, countFailure_storeRecord]
  · rintro t g rfl hg hs hext hstream
    have hr : rangeWrong t g.defn = false := by
      rw [Bool.eq_false_iff, Ne, rangeWrong_iff]
      rintro (h | ⟨hk, h⟩)
      · omega
      · exact h (hstream hk)
    refine ⟨fun hdis => serveHead_waits hd ?_, fun hdis hfail => ?_⟩
    · rw [evaluateTransfer_served hg hs (by rw [hdis]; decide) hr, if_pos hdis]
    · have he : evaluateTransfer s t = .candidate g.defn.port := by
        rw [evaluateTransfer_served hg hs hfail hr, if_neg hdis]
      have hserve := serveHead_candidate (inTick := inTick) hd he
      exact ⟨fun hc => hserve.trans (offerHead_again hc), fun hc => hserve.trans (offerHead_new hc)⟩

end Sys2Proof.Machine

/-! SUPPORT. The end of a head and of a pass, and the intervals of a channel (R18 to R23, R29, R120, R121). -/

namespace Sys2Proof.Machine

/-! ### The end of a head and of a pass (R20, R21) -/

/-- R20 steps 1 and 2: a channel moved on by one head, with its notice. -/
def State.stepOn (s : State) (c : ChannelIx) : State :=
  (s.setChannel c
    { s.channel c with position := (s.channel c).position + 1, doneInPass := (s.channel c).doneInPass + 1 }).claimIf
    (decide (2 ≤ (s.channel c).ring.length ∧ (s.channel c).doneInPass + 1 = (s.channel c).ring.length / 2)
      && (s.channel c).wants.half) (.halfPass c (s.channel c).passCount)

theorem finishHead_eq (s : State) (c : ChannelIx) :
    s.finishHead c = if (s.channel c).atLast then (s.stepOn c).endPass c else s.stepOn c := rfl

theorem stepOn_channel (s : State) (c : ChannelIx) :
    (s.stepOn c).channel c =
      { s.channel c with position := (s.channel c).position + 1, doneInPass := (s.channel c).doneInPass + 1 } := by
  rw [State.stepOn, claimIf_channel, setChannel_channel_same]

/-- The channel's record at the end of its pass. -/
def Channel.passEnded (ch : Channel) : Channel :=
  { ch with passCount := min (ch.passCount + 1) 65535, position := 0, doneInPass := 0 }

theorem endPass_stepOn (s : State) (c : ChannelIx) :
    (s.stepOn c).endPass c = ((s.stepOn c).setChannel c (s.channel c).passEnded).claimIf (s.channel c).wants.pass
      (.passDone c (min ((s.channel c).passCount + 1) 65535)) := by
  rw [State.endPass, stepOn_channel]
  rfl

theorem endPass_stepOn_channel (s : State) (c : ChannelIx) :
    ((s.stepOn c).endPass c).channel c = (s.channel c).passEnded := by
  rw [endPass_stepOn, claimIf_channel, setChannel_channel_same]

theorem finishHead_last {s : State} {c : ChannelIx} (h : (s.channel c).ring.length ≤ (s.channel c).position + 1) :
    s.finishHead c = (s.stepOn c).endPass c := by
  rw [finishHead_eq, if_pos ((atLast_iff _).mpr h)]

theorem not_atLast {ch : Channel} (h : ch.position + 1 < ch.ring.length) : ¬ch.atLast = true := by
  rw [atLast_iff]
  omega

/-- R20: any other head is followed by the next. -/
theorem finishAndGoOn_middle {s : State} {inTick : Bool} {c : ChannelIx}
    (h : (s.channel c).position + 1 < (s.channel c).ring.length) :
    s.finishAndGoOn inTick c = (s.stepOn c).serveHead inTick c := by
  rw [State.finishAndGoOn, if_neg (not_atLast h), finishHead_eq, if_neg (not_atLast h)]

/-- R21: after the last head of the ring. -/
theorem finishAndGoOn_last {s : State} {inTick : Bool} {c : ChannelIx}
    (h : (s.channel c).ring.length ≤ (s.channel c).position + 1) :
    s.finishAndGoOn inTick c = ((s.stepOn c).endPass c).afterPass c := by
  rw [finishAndGoOn_eq, if_pos ((atLast_iff _).mpr h), finishHead_last h]

/-- Settles O41: a head that is not the last of its ring, then the last one, and each course after it. -/
theorem headFinished : Obligations.HeadFinished := by
  intro s inTick c ch n half passes stepped
  constructor
  · intro h
    exact ⟨if_neg (not_atLast h), finishAndGoOn_middle h⟩
  · intro h ended passed
    have hpassed : (s.stepOn c).endPass c = passed := endPass_stepOn s c
    have hchannel : passed.channel c = ended := hpassed ▸ endPass_stepOn_channel s c
    have hgo : s.finishAndGoOn inTick c = passed.afterPass c := hpassed ▸ finishAndGoOn_last h
    refine ⟨(finishHead_last h).trans hpassed, fun hm => ?_, fun hm hp => ?_, fun hm hp => ?_⟩
    · rw [hgo, afterPass_once (by rw [hchannel]; exact hm), hchannel]
    · rw [hgo, afterPass_paced (by rw [hchannel]; exact hm) (by rw [hchannel]; exact hp), hchannel]
    · rw [hgo, afterPass_gap (by rw [hchannel]; exact hm) (by rw [hchannel]; exact hp), hchannel]

/-! ### Completions (R18, R19, R22, R23, R29, R69, R120, R121) -/

/-- R19: the failure count of a record stored is the channel's, one higher. -/
theorem countFailure_afterRecord (s : State) (c : ChannelIx) (r : Record) :
    (s.storeRecord c r).countFailure c = (s.storeRecord c r).setChannel c
      { (s.storeRecord c r).channel c with failureCount := min ((s.channel c).failureCount + 1) 65535 } := by
  rw [State.countFailure, storeRecord_channel]
  rfl

/-- R23: the notice names the head that failed. -/
theorem haltChannel_failed (s : State) (c : ChannelIx) (r : Record) :
    ((s.storeRecord c r).countFailure c).haltChannel c r =
      (((s.storeRecord c r).countFailure c).setChannel c
        { ((s.storeRecord c r).countFailure c).channel c with state := .halted, haltReason := some .failure }).claim
        (.channelHalted c (s.channel c).position r.result (s.channel c).headSlot) := by
  rw [State.haltChannel, countFailure_storeRecord_channel]
  rfl

/-- R120, R121: whether the pass end is held follows from the head that was held. -/
theorem holdChannel_afterRecord (s : State) (c : ChannelIx) (r : Record) :
    (s.storeRecord c r).holdChannel c = ((s.storeRecord c r).finishHead c).setChannel c
      { ((s.storeRecord c r).finishHead c).channel c with
        state := .halted, haltReason := some .watchHold
        heldPassEnd := decide ((s.channel c).ring.length ≤ (s.channel c).position + 1) } := by
  rw [State.holdChannel, storeRecord_channel]
  rfl

theorem takeRunning_done {s : State} {inTick : Bool} {c : ChannelIx} {r : Record} {o : Option WatchOutcome}
    (hr : r.result = .done) (hh : ¬(o = some .hit ∧ (s.channel c).headHolds = true)) :
    s.takeRunning inTick c r o = (s.storeRecord c r).finishAndGoOn inTick c := by
  simp only [State.takeRunning, hr, if_true, if_neg hh]

theorem takeRunning_holds {s : State} {inTick : Bool} {c : ChannelIx} {r : Record} {o : Option WatchOutcome}
    (hr : r.result = .done) (ho : o = some .hit) (hh : (s.channel c).headHolds = true) :
    s.takeRunning inTick c r o = (s.storeRecord c r).holdChannel c := by
  simp only [State.takeRunning, hr, if_true, ho, hh, and_self]

theorem takeRunning_halts {s : State} {inTick : Bool} {c : ChannelIx} {r : Record} {o : Option WatchOutcome}
    (hr : r.result ≠ .done) (hp : (s.channel c).policy = .halt) :
    s.takeRunning inTick c r o = ((s.storeRecord c r).countFailure c).haltChannel c r := by
  simp only [State.takeRunning, if_neg hr, hp]

theorem takeRunning_skips {s : State} {inTick : Bool} {c : ChannelIx} {r : Record} {o : Option WatchOutcome}
    (hr : r.result ≠ .done) (hp : (s.channel c).policy = .skip) :
    s.takeRunning inTick c r o = (((s.storeRecord c r).countFailure c).claimDescFailed c r).finishAndGoOn inTick c := by
  simp only [State.takeRunning, if_neg hr, hp]

theorem takeStopping_quiet {s : State} {c : ChannelIx} {r : Record} (hr : r.result = .done ∨ r.result = .aborted) :
    s.takeStopping c r = (s.storeRecord c r).setChannel c { (s.storeRecord c r).channel c with state := .off } :=
  if_pos hr

/-- R29: a failure of a STOPPING channel is counted and reported under either policy. -/
theorem takeStopping_fails {s : State} {c : ChannelIx} {r : Record} (hd : r.result ≠ .done) (ha : r.result ≠ .aborted) :
    s.takeStopping c r = ((s.storeRecord c r).setChannel c
      { (s.storeRecord c r).channel c with
        state := .off, failureCount := min ((s.channel c).failureCount + 1) 65535 }).claimIf (s.channel c).wants.fail
      (.descFailed c (s.channel c).position r.result (s.channel c).headSlot r.attempts) := by
  rw [State.takeStopping]
  dsimp only
  rw [if_neg (not_or.mpr ⟨hd, ha⟩), State.countFailure, State.claimDescFailed]
  simp only [setChannel_channel_same, setChannel_setChannel, storeRecord_channel]
  rfl

/-- CHANNEL_COMPLETION on a RUNNING channel. -/
theorem exec_channelCompletion_running {s : State} {c : ChannelIx} {a : Arrival} (hq : s.quiet = true)
    (ha : (s.channel c).arriving = some a) (hs : (s.channel c).state = .running) :
    exec (.channelCompletion c) s = .next (s.takeRunning false c a.record a.outcome) := by
  change whenOperating s (fun s => s.onChannelCompletion c) = _
  rw [whenOperating_of hq, State.onChannelCompletion, ha]
  simp only [hs]

/-- CHANNEL_COMPLETION on a STOPPING one. -/
theorem exec_channelCompletion_stopping {s : State} {c : ChannelIx} {a : Arrival} (hq : s.quiet = true)
    (ha : (s.channel c).arriving = some a) (hs : (s.channel c).state = .stopping) :
    exec (.channelCompletion c) s = .next (s.takeStopping c a.record) := by
  change whenOperating s (fun s => s.onChannelCompletion c) = _
  rw [whenOperating_of hq, State.onChannelCompletion, ha]
  simp only [hs]

theorem headHolds_iff {ch : Channel} {t : Transfer} (h : ch.headTransfer = some t) :
    ch.headHolds = true ↔ ∃ mode, t.op = .watch mode true := by
  rw [Channel.headHolds, h]
  dsimp only
  cases t.op with
  | read => simp
  | write => simp
  | watch mode hold => simp

/-- TICKET_COMPLETION removes the ticket with its notice. -/
theorem exec_ticketCompletion {s : State} {n : Nat} {t : Ticket} {r : Record} (hq : s.quiet = true)
    (ht : s.ticket n = some t) (hr : t.arrived = some r) :
    exec (.ticketCompletion n) s = .next (s.completeTicket n r) := by
  change whenOperating s (fun s => s.onTicketCompletion n) = _
  rw [whenOperating_of hq, State.onTicketCompletion, ht, Option.bind_some, hr]

/-- Settles O42: the head that a completion is for, then each result on a RUNNING and on a STOPPING channel, and the ticket's. -/
theorem completionsTaken : Obligations.CompletionsTaken := by
  refine ⟨fun ch d hd => ⟨?_, ?_⟩, ?_, fun s n t r => exec_ticketCompletion⟩
  · rintro t rfl
    exact ⟨headTransfer_of hd, headSlot_of hd, headHolds_iff (headTransfer_of hd)⟩
  · rintro ms rfl
    have hn : ch.headTransfer = none := by
      rw [Channel.headTransfer, show ch.headDescriptor = some (.pause ms) from hd]
    exact ⟨hn, by rw [Channel.headHolds, hn]⟩
  · intro s u c a hq ha hu failed counted reported
    subst hu
    have hcounted : (s.storeRecord c a.record).countFailure c = counted := countFailure_afterRecord s c a.record
    refine ⟨fun hs => ?_, fun hs => ?_⟩
    · have hexec := exec_channelCompletion_running hq ha hs
      refine ⟨fun hr hh => hexec.trans ?_, fun hr ho hh => hexec.trans ?_, fun hr hp => hexec.trans ?_,
        fun hr hp => hexec.trans ?_⟩
      · rw [takeRunning_done hr hh]
        rfl
      · rw [takeRunning_holds hr ho hh, holdChannel_afterRecord]
        rfl
      · rw [takeRunning_halts hr hp, haltChannel_failed, hcounted]
      · rw [takeRunning_skips hr hp, claimDescFailed_countFailure_storeRecord, hcounted]
    · have hexec := exec_channelCompletion_stopping hq ha hs
      refine ⟨fun hr => hexec.trans ?_, fun hd hab => hexec.trans ?_⟩
      · rw [takeStopping_quiet hr]
        rfl
      · rw [takeStopping_fails hd hab]
        rfl

/-! ### The intervals of a channel (R18, R21) -/

theorem onPauseExpiry_due {s : State} {c : ChannelIx} (h : (s.channel c).pauseDue = true) :
    s.onPauseExpiry c =
      (s.storeRecord c { result := .done, moved := 0, attempts := 0 }).finishAndGoOn true c := by
  rw [State.onPauseExpiry, if_pos h, takeRunning_done rfl (by simp)]

/-- Settles O40: a pause that has run out is a completion, and a pass gap that has is followed by a pass. -/
theorem channelIntervalsEnd : Obligations.ChannelIntervalsEnd := by
  refine fun s c ho hs => ⟨fun hh ht => (whenDue_of ho _).trans ?_, fun hh ht => (whenDue_of ho _).trans ?_⟩
  · have hdue : (s.channel c).pauseDue = true := by simp [Channel.pauseDue, hs, hh, ht, ranOut]
    exact congrArg Host.Outcome.next (onPauseExpiry_due hdue)
  · have hdue : (s.channel c).passGapDue = true := by simp [Channel.passGapDue, hs, hh, ht, ranOut]
    exact congrArg Host.Outcome.next (if_pos hdue)

end Sys2Proof.Machine

/-! SUPPORT. Announcements taken (R14, R39, R107), and the values after reset (R1, R31, R45, R49, R56, R63, R73, R100, R126,
R136, R155, R165, R166, R168, R178). -/

namespace Sys2Proof.Machine

/-! ### Announcements (R14, R39, R107) -/

theorem allParties_eq (s : State) :
    s.allParties =
      [.channel 0, .channel 1, .channel 2, .channel 3, .channel 4, .channel 5, .channel 6, .channel 7]
        ++ s.tickets.map (fun t => .ticket t.number) := rfl

theorem exec_slotAnnouncement {s : State} {n : SlotIx} (order : List Party) (hq : s.quiet = true) (hn : n ∈ s.slotNews) :
    exec (.slotAnnouncement n order) s =
      .next ({ s with slotNews := s.slotNews.erase n }.reevaluate (fun t => t.slot == n) order) := by
  change whenOperating s (fun s => s.onSlotAnnouncement n order) = _
  rw [whenOperating_of hq, State.onSlotAnnouncement, if_pos (List.contains_iff_mem.mpr hn)]

theorem exec_portAnnouncement {s : State} {p : Port} (order : List Party) {st : PortState} {rest : List PortState}
    (hq : s.quiet = true) (hn : s.portNews.get p = st :: rest) :
    exec (.portAnnouncement p order) s =
      .next ({ s with portNews := s.portNews.set p rest }.reevaluate (s.liesOn p) order) := by
  change whenOperating s (fun s => s.onPortAnnouncement p order) = _
  rw [whenOperating_of hq, State.onPortAnnouncement, hn]
  rfl

/-- The head statuses that wait for an announcement: WAITING and CANDIDATE. -/
theorem headWaits_iff (h : HeadStatus) : h.waits = true ↔ h = .waiting ∨ ∃ q, h = .candidate q := by
  cases h <;> simp [HeadStatus.waits]

theorem reevaluateParty_channel {sel : Transfer → Bool} {s : State} {c : ChannelIx} {t : Transfer}
    (hs : (s.channel c).state = .running) (hw : (s.channel c).head.waits = true) (ht : (s.channel c).headTransfer = some t)
    (hsel : sel t = true) : reevaluateParty sel s (.channel c) = s.serveHead false c :=
  if_pos ⟨hs, hw, by rw [ht, Option.any_some, hsel]⟩

/-- A channel is left as it is unless it is RUNNING, its head waits, and its target is meant. -/
theorem reevaluateParty_channel_untouched {sel : Transfer → Bool} {s : State} {c : ChannelIx}
    (h : (s.channel c).state ≠ .running ∨ (s.channel c).head.waits = false
      ∨ ∀ t, (s.channel c).headTransfer = some t → sel t = false) : reevaluateParty sel s (.channel c) = s := by
  refine if_neg ?_
  rintro ⟨hs, hw, ht⟩
  rcases h with h | h | h
  · exact h hs
  · rw [hw] at h
    cases h
  · cases htr : (s.channel c).headTransfer with
    | none => rw [htr] at ht; cases ht
    | some t => rw [htr, Option.any_some, h t htr] at ht; cases ht

theorem reevaluateParty_ticket {sel : Transfer → Bool} {s : State} {n : Nat} {t : Ticket} (ht : s.ticket n = some t)
    (hsel : sel t.transfer = true) : reevaluateParty sel s (.ticket n) = s.evaluateTicket n :=
  if_pos (by rw [ht, Option.any_some, hsel])

theorem evaluateTicket_inFlight {s : State} {n : Nat} {t : Ticket} (ht : s.ticket n = some t) (hf : t.state = .inFlight) :
    s.evaluateTicket n = s := by
  simp only [State.evaluateTicket, ht, hf, if_true]

/-- No ticket IN_FLIGHT, and none whose target is not meant, is touched. -/
theorem reevaluateParty_ticket_untouched {sel : Transfer → Bool} {s : State} {n : Nat}
    (h : ∀ t, s.ticket n = some t → t.state = .inFlight ∨ sel t.transfer = false) :
    reevaluateParty sel s (.ticket n) = s := by
  cases ht : s.ticket n with
  | none => exact if_neg (by simp [ht])
  | some t =>
    cases hsel : sel t.transfer with
    | false => exact if_neg (by simp [ht, hsel])
    | true =>
      have hf : t.state = .inFlight := (h t ht).resolve_right (by rw [hsel]; decide)
      rw [reevaluateParty_ticket ht hsel, evaluateTicket_inFlight ht hf]

/-- Settles O44: the announcement taken, and each party by its state and its target. -/
theorem announcementsTaken : Obligations.AnnouncementsTaken := by
  refine ⟨fun s n order => exec_slotAnnouncement order, fun s p order st rest => exec_portAnnouncement order, allParties_eq,
    fun s sel c t hs hw => reevaluateParty_channel hs ((headWaits_iff _).mpr hw), fun s sel c h => ?_,
    fun s sel n t ht _ => reevaluateParty_ticket ht, fun s sel n => reevaluateParty_ticket_untouched⟩
  rcases h with h | h | h | ⟨q, h⟩ | h
  · exact reevaluateParty_channel_untouched (.inl h)
  · exact reevaluateParty_channel_untouched (.inr (.inl (by rw [h]; rfl)))
  · exact reevaluateParty_channel_untouched (.inr (.inl (by rw [h]; rfl)))
  · exact reevaluateParty_channel_untouched (.inr (.inl (by rw [h]; rfl)))
  · exact reevaluateParty_channel_untouched (.inr (.inr h))

/-! ### The values after reset -/

theorem reset_candidateHeads (p : Port) : State.reset.candidateHeads p = [] := by
  simp only [State.candidateHeads, reset_channel]
  rfl

/-- Settles O2: block by block. -/
theorem resetValues : Obligations.ResetValues := by
  refine ⟨reset_channel, rfl, reset_slot, fun _ => rfl, rfl, rfl, rfl, fun p => ?_, reset_pacer, rfl, rfl, rfl, rfl, rfl, rfl,
    rfl, rfl, rfl, rfl, rfl, rfl, rfl, rfl, rfl, rfl, rfl⟩
  rw [State.portState, reset_engine, reset_arbiter, reset_candidateHeads]
  exact ⟨reset_busy p, rfl, rfl, rfl, rfl, rfl, rfl, rfl, rfl, rfl, rfl, rfl, rfl, rfl, rfl, rfl, rfl, rfl, rfl⟩

end Sys2Proof.Machine

/-! SUPPORT. The Target Table (chapter 2): when fourteen bytes are a definition, and that the bytes by which one is reported are
read as that one (R34, R194); the target commands TGT_SET, TGT_REMOVE, TGT_FENCE and TGT_UNFENCE (R33 to R42). -/

namespace Sys2Proof.Machine

/-! ### The codes of a definition (R191) -/

theorem portOf_eq_some_iff (n : Nat) (p : Port) : portOf n = some p ↔ portCode p = n := by
  constructor
  · intro h
    unfold portOf at h
    split at h <;> cases h <;> rfl
  · rintro rfl
    cases p <;> rfl

theorem targetKindOf_eq_some_iff (n : Nat) (k : TargetKind) : targetKindOf n = some k ↔ k.code = n := by
  constructor
  · intro h
    unfold targetKindOf at h
    split at h <;> cases h <;> rfl
  · rintro rfl
    cases k <;> rfl

theorem speedOf_eq_some_iff (n : Nat) (x : Speed) : speedOf n = some x ↔ x.code = n := by
  constructor
  · intro h
    unfold speedOf at h
    split at h <;> cases h <;> rfl
  · rintro rfl
    cases x <;> rfl

/-! ### Definitions and their bytes (R34, R194) -/

/-- R34: the valid combinations, one for each field and kind that is bound. -/
theorem Definition.valid_iff (d : Definition) : d.valid = true ↔
    (0x08 ≤ d.address ∧ d.address ≤ 0x77) ∧ (d.kind = .stream → d.offsetWidth = 0)
    ∧ (d.kind ≠ .stream → d.offsetWidth = 1 ∨ d.offsetWidth = 2) ∧ (1 ≤ d.extent ∧ d.extent ≤ 65536)
    ∧ (d.offsetWidth = 1 → d.extent ≤ 256) ∧ (d.kind = .memory → d.pageSize ∈ [8, 16, 32, 64, 128, 256])
    ∧ (d.kind ≠ .memory → d.pageSize = 0) ∧ (1 ≤ d.stretchLimit ∧ d.stretchLimit ≤ 50)
    ∧ (d.kind = .memory → 1 ≤ d.cycleLimit ∧ d.cycleLimit ≤ 100) ∧ (d.kind ≠ .memory → d.cycleLimit = 0)
    ∧ d.retries ≤ 3 ∧ 1 ≤ d.fenceThreshold ∧ d.fenceThreshold ≤ 15 := by
  have himp : (d.offsetWidth ≠ 1 ∨ d.extent ≤ 256) ↔ (d.offsetWidth = 1 → d.extent ≤ 256) := Decidable.imp_iff_not_or.symm
  simp only [Definition.valid, Bool.and_eq_true, Bool.or_eq_true, decide_eq_true_eq, himp]
  cases hk : d.kind with
  | memory => simp only [List.contains_iff_mem, reduceCtorEq, ne_eq, not_true, not_false_eq_true, true_imp_iff, false_imp_iff,
      true_and, and_assoc, decide_eq_true_eq]
  | register => simp only [decide_eq_true_eq, reduceCtorEq, ne_eq, not_false_eq_true, true_imp_iff, false_imp_iff, true_and,
      and_assoc]
  | stream => simp only [decide_eq_true_eq, reduceCtorEq, ne_eq, not_true, not_false_eq_true, true_imp_iff, false_imp_iff,
      true_and, and_assoc]

/-- Section 12.5: the fourteen bytes spell the definition, with the defaults of R34. -/
def Definition.SpelledBy (d : Definition) (b : List Byte) : Prop :=
  portCode d.port = at1 b 0 ∧ d.address = at1 b 1 ∧ d.kind.code = at1 b 2 ∧ d.offsetWidth = at1 b 3 ∧ d.extent = at3 b 4
  ∧ d.pageSize = at2 b 7 ∧ d.speed.code = at1 b 9 ∧ d.stretchLimit = (if at1 b 10 = 0 then 10 else at1 b 10)
  ∧ d.cycleLimit = (if d.kind = .memory ∧ at1 b 11 = 0 then 10 else at1 b 11) ∧ d.retries = at1 b 12
  ∧ d.fenceThreshold = (if at1 b 13 = 0 then 3 else at1 b 13)

/-- R34, R194: fourteen bytes are a definition exactly if they spell it and it meets the valid combinations. -/
theorem definitionOf_eq_some_iff (b : List Byte) (d : Definition) :
    definitionOf b = some d ↔ d.valid = true ∧ d.SpelledBy b := by
  unfold definitionOf
  split
  · next port kind speed hport hkind hspeed =>
    rw [Option.ite_none_right_eq_some, Option.some.injEq]
    refine (and_congr_left fun hread => by rw [hread]).trans (and_congr_right fun _ => ?_)
    obtain ⟨port', address, kind', offsetWidth, extent, pageSize, speed', stretch, cycle, retries, fence⟩ := d
    simp only [Definition.mk.injEq, Definition.SpelledBy, ← portOf_eq_some_iff, ← targetKindOf_eq_some_iff,
      ← speedOf_eq_some_iff, hport, hkind, hspeed, Option.some.injEq]
    constructor
    · rintro ⟨rfl, rfl, rfl, rfl, rfl, rfl, rfl, rfl, rfl, rfl, rfl⟩
      refine ⟨rfl, rfl, rfl, rfl, rfl, rfl, rfl, rfl, ?_, rfl, rfl⟩
      cases kind <;> simp [orDefault]
    · rintro ⟨rfl, rfl, rfl, rfl, rfl, rfl, rfl, rfl, hcycle, rfl, rfl⟩
      refine ⟨rfl, rfl, rfl, rfl, rfl, rfl, rfl, rfl, Eq.trans ?_ hcycle.symm, rfl, rfl⟩
      cases kind <;> simp [orDefault]
  · next hne =>
    simp only [reduceCtorEq, false_iff]
    rintro ⟨_, hp, _, hk, _, _, _, hs, _⟩
    exact hne d.port d.kind d.speed ((portOf_eq_some_iff _ _).mpr hp) ((targetKindOf_eq_some_iff _ _).mpr hk)
      ((speedOf_eq_some_iff _ _).mpr hs)

theorem Definition.length_bytes (d : Definition) : d.bytes.length = 14 := rfl

/-- The fields of a definition as it is reported, by the table of section 12.5. -/
theorem definition_bytes_fields (d : Definition) :
    at1 d.bytes 0 = portCode d.port ∧ at1 d.bytes 1 = d.address % 256 ∧ at1 d.bytes 2 = d.kind.code
    ∧ at1 d.bytes 3 = d.offsetWidth % 256 ∧ at3 d.bytes 4 = d.extent % 16777216 ∧ at2 d.bytes 7 = d.pageSize % 65536
    ∧ at1 d.bytes 9 = d.speed.code ∧ at1 d.bytes 10 = d.stretchLimit % 256 ∧ at1 d.bytes 11 = d.cycleLimit % 256
    ∧ at1 d.bytes 12 = d.retries % 256 ∧ at1 d.bytes 13 = d.fenceThreshold % 256 := by
  have hport : portCode d.port < 256 := by cases d.port <;> decide
  have hkind : d.kind.code < 256 := by cases d.kind <;> decide
  have hspeed : d.speed.code < 256 := by cases d.speed <;> decide
  simp only [Definition.bytes, byte1, bytes2, bytes3, at1, at2, at3, List.cons_append, List.nil_append, List.getD_cons_succ,
    List.getD_cons_zero, BitVec.toNat_ofNat, true_and, and_true]
  omega

/-- R34: a valid definition has an offset width and a page size that their fields hold. -/
theorem Definition.valid_fits {d : Definition} (h : d.valid = true) : d.offsetWidth ≤ 2 ∧ d.pageSize ≤ 256 := by
  obtain ⟨_, hstream, hoffset, _, _, hmemory, hplain, _⟩ := d.valid_iff.mp h
  simp only [List.mem_cons, List.not_mem_nil, or_false] at hmemory
  constructor
  · by_cases hk : d.kind = .stream
    · have := hstream hk
      omega
    · have := hoffset hk
      omega
  · by_cases hk : d.kind = .memory
    · have := hmemory hk
      omega
    · have := hplain hk
      omega

/-- The bytes by which a valid definition is reported spell it: a default stands for 0, which no valid field that has one is. -/
theorem Definition.spelledBy_bytes {d : Definition} (h : d.valid = true) : d.SpelledBy d.bytes := by
  obtain ⟨hwidth, hpage⟩ := Definition.valid_fits h
  obtain ⟨haddr, _, _, hextent, _, _, _, hstretch, hmem, hplain, hretries, hfence⟩ := d.valid_iff.mp h
  obtain ⟨b0, b1, b2, b3, b4, b7, b9, b10, b11, b12, b13⟩ := definition_bytes_fields d
  have hcycle : d.cycleLimit = if d.kind = .memory ∧ at1 d.bytes 11 = 0 then 10 else at1 d.bytes 11 := by
    by_cases hk : d.kind = .memory
    · have := hmem hk
      rw [if_neg (by omega)]
      omega
    · have := hplain hk
      rw [if_neg (fun hc => hk hc.1)]
      omega
  refine ⟨b0.symm, by omega, b2.symm, by omega, by omega, by omega, b9.symm, ?_, hcycle, by omega, ?_⟩
  · rw [if_neg (by omega)]
    omega
  · rw [if_neg (by omega)]
    omega

theorem definitionOf_bytes {d : Definition} (h : d.valid = true) : definitionOf d.bytes = some d :=
  (definitionOf_eq_some_iff _ _).mpr ⟨h, Definition.spelledBy_bytes h⟩

/-! ### TGT_SET (R34, R35) -/

@[simp] theorem takeOldest_slot (s : State) (rest : List CommandFrame) (n : SlotIx) :
    (s.takeOldest rest).slot n = s.slot n := rfl

/-- R33: a slot number in range names its slot. -/
theorem withSlot_of {payload : List Byte} {n : SlotIx} (h : at1 payload 0 = n.val) (s : State) (f : SlotIx → Settled) :
    withSlot payload s f = f n := by
  unfold withSlot
  rw [dif_pos (h ▸ n.isLt)]
  exact congrArg f (Fin.ext h)

/-- R34 step 3: what a duplicate is. -/
theorem duplicateTarget_iff (s : State) (n : SlotIx) (d : Definition) : s.duplicateTarget n d = true ↔
    ∃ m t, m ≠ n ∧ (s.slot m).target = some t ∧ t.defn.port = d.port ∧ t.defn.address = d.address := by
  simp only [State.duplicateTarget, Slot.holds, List.any_eq_true, List.mem_finRange, true_and, Bool.and_eq_true, bne_iff_ne,
    Option.any_eq_true, beq_iff_eq]
  exact ⟨fun ⟨m, hm, t, h⟩ => ⟨m, t, hm, h⟩, fun ⟨m, t, hm, h⟩ => ⟨m, hm, t, h⟩⟩

section TgtSet
variable {payload : List Byte} {s : State} {n : SlotIx} {d : Definition}

theorem settleTgtSet_badValue (hn : at1 payload 0 = n.val) (hd : definitionOf (payload.drop 1) = none) :
    settleTgtSet payload s = refuse s .badValue := by
  rw [settleTgtSet, withSlot_of hn, hd]

theorem settleTgtSet_busy (hn : at1 payload 0 = n.val) (hd : definitionOf (payload.drop 1) = some d)
    (hf : (s.slot n).inFlight = true) : settleTgtSet payload s = refuse s .busy := by
  rw [settleTgtSet, withSlot_of hn, hd]
  exact if_pos hf

theorem settleTgtSet_duplicate (hn : at1 payload 0 = n.val) (hd : definitionOf (payload.drop 1) = some d)
    (hf : (s.slot n).inFlight = false) (hdup : s.duplicateTarget n d = true) :
    settleTgtSet payload s = refuse s .duplicate := by
  rw [settleTgtSet, withSlot_of hn, hd]
  dsimp only
  rw [hf, if_neg Bool.false_ne_true, if_pos hdup]

theorem settleTgtSet_taken (hn : at1 payload 0 = n.val) (hd : definitionOf (payload.drop 1) = some d)
    (hf : (s.slot n).inFlight = false) (hdup : ¬s.duplicateTarget n d = true) :
    settleTgtSet payload s = taken
      ((s.setSlot n
        { target := some { defn := d, standing := .online, count := 0 }, inFlight := false }).announceSlot n) [] := by
  rw [settleTgtSet, withSlot_of hn, hd]
  dsimp only
  rw [hf, if_neg Bool.false_ne_true, if_neg hdup]

end TgtSet

/-- Settles O18: each outcome of TGT_SET in the order of R34, then what its bytes say of a definition, and back. -/
theorem targetSet : Obligations.TargetSet := by
  refine ⟨fun s f rest n ht hn => ⟨fun hd => ?_, fun d hd => ⟨fun hf => ?_, fun hf hdup => ?_, fun hf hdup => ?_⟩⟩,
    definitionOf_eq_some_iff, Definition.valid_iff, fun d hv => ⟨d.length_bytes, definitionOf_bytes hv⟩⟩
  · exact refuses_of ht (settleTgtSet_badValue hn hd)
  · exact refuses_of ht (settleTgtSet_busy (s := s.takeOldest rest) hn hd hf)
  · exact refuses_of ht
      (settleTgtSet_duplicate (s := s.takeOldest rest) hn hd hf ((duplicateTarget_iff _ n d).mpr hdup))
  · have hno : ¬(s.takeOldest rest).duplicateTarget n d = true := by
      rw [duplicateTarget_iff]
      exact fun ⟨m, t, hm, htarget, hsame⟩ => hdup m t hm htarget hsame
    exact answers_of ht (settleTgtSet_taken (s := s.takeOldest rest) hn hd hf hno)

/-! ### TGT_REMOVE, TGT_FENCE and TGT_UNFENCE (R40 to R42) -/

section SlotCommands
variable {payload : List Byte} {s : State} {n : SlotIx} {t : Target}

theorem settleTgtRemove_busy (hn : at1 payload 0 = n.val) (hf : (s.slot n).inFlight = true) :
    settleTgtRemove payload s = refuse s .busy := by
  rw [settleTgtRemove, withSlot_of hn]
  exact if_pos hf

theorem settleTgtRemove_vacant (hn : at1 payload 0 = n.val) (hf : (s.slot n).inFlight = false)
    (ht : (s.slot n).target = none) : settleTgtRemove payload s = taken s [] := by
  rw [settleTgtRemove, withSlot_of hn]
  simp only [hf, ht, Bool.false_eq_true, if_false]

theorem settleTgtRemove_taken (hn : at1 payload 0 = n.val) (hf : (s.slot n).inFlight = false)
    (ht : (s.slot n).target = some t) : settleTgtRemove payload s =
      taken ((s.setSlot n { target := none, inFlight := false }).announceSlot n) [] := by
  rw [settleTgtRemove, withSlot_of hn]
  simp only [hf, ht, Bool.false_eq_true, if_false]

theorem settleTgtFence_vacant (hn : at1 payload 0 = n.val) (ht : (s.slot n).target = none) :
    settleTgtFence payload s = refuse s .noTarget := by
  rw [settleTgtFence, withSlot_of hn]
  simp only [ht]

theorem settleTgtFence_of (hn : at1 payload 0 = n.val) (ht : (s.slot n).target = some t) :
    settleTgtFence payload s =
      if t.standing = .fenced then taken s []
      else
        taken ((s.setSlot n
          { target := some { t with standing := .fenced }, inFlight := (s.slot n).inFlight }).announceSlot n) [] := by
  rw [settleTgtFence, withSlot_of hn]
  simp only [ht]

theorem settleTgtUnfence_vacant (hn : at1 payload 0 = n.val) (ht : (s.slot n).target = none) :
    settleTgtUnfence payload s = refuse s .noTarget := by
  rw [settleTgtUnfence, withSlot_of hn]
  simp only [ht]

theorem settleTgtUnfence_of (hn : at1 payload 0 = n.val) (ht : (s.slot n).target = some t) :
    settleTgtUnfence payload s =
      if t.standing = .online then taken s []
      else
        taken ((s.setSlot n
          { target := some { t with standing := .online, count := 0 }, inFlight := (s.slot n).inFlight }).announceSlot n)
          [] := by
  rw [settleTgtUnfence, withSlot_of hn]
  simp only [ht]

end SlotCommands

/-- Settles O19: each of the three commands by mark, target and standing of the slot. -/
theorem targetRemovedFencedUnfenced : Obligations.TargetRemovedFencedUnfenced := by
  refine fun s f rest n hn => ⟨fun ht => ⟨fun hf => ?_, fun hf hv => ?_, fun hf hv => ?_⟩,
    fun ht => ⟨fun hv => ?_, fun t hs => ⟨fun hst => ?_, fun hst => ?_⟩⟩,
    fun ht => ⟨fun hv => ?_, fun t hs => ⟨fun hst => ?_, fun hst => ?_⟩⟩⟩
  · exact refuses_of ht (settleTgtRemove_busy (s := s.takeOldest rest) hn hf)
  · exact answers_of ht (settleTgtRemove_vacant (s := s.takeOldest rest) hn hf hv)
  · obtain ⟨t, hs⟩ := Option.ne_none_iff_exists'.mp hv
    exact answers_of ht (settleTgtRemove_taken (s := s.takeOldest rest) hn hf hs)
  · exact refuses_of ht (settleTgtFence_vacant (s := s.takeOldest rest) hn hv)
  · exact answers_of ht ((settleTgtFence_of (s := s.takeOldest rest) hn hs).trans (if_pos hst))
  · exact answers_of ht ((settleTgtFence_of (s := s.takeOldest rest) hn hs).trans (if_neg hst))
  · exact refuses_of ht (settleTgtUnfence_vacant (s := s.takeOldest rest) hn hv)
  · exact answers_of ht ((settleTgtUnfence_of (s := s.takeOldest rest) hn hs).trans (if_pos hst))
  · exact answers_of ht ((settleTgtUnfence_of (s := s.takeOldest rest) hn hs).trans (if_neg hst))

end Sys2Proof.Machine

/-! SUPPORT. TARGET_ACCOUNTING (R37, R38, R62, R97): the result accounted to the slot, and the record handed on. -/

namespace Sys2Proof.Machine

/-! ### The first of a list that fits -/

theorem modifyFirst_append_cons {α : Type} {p : α → Bool} (f : α → α) {before : List α} (h : ∀ x ∈ before, p x = false)
    {y : α} (hy : p y = true) (after : List α) :
    modifyFirst p f (before ++ y :: after) = before ++ f y :: after := by
  induction before with
  | nil => rw [List.nil_append, modifyFirst, if_pos hy, List.nil_append]
  | cons x rest ih =>
    obtain ⟨hx, hrest⟩ := List.forall_mem_cons.mp h
    rw [List.cons_append, modifyFirst, if_neg (by rw [hx]; exact Bool.false_ne_true), ih hrest, List.cons_append]

theorem modifyFirst_of_none {α : Type} {p : α → Bool} (f : α → α) {l : List α} (h : ∀ x ∈ l, p x = false) :
    modifyFirst p f l = l := by
  induction l with
  | nil => rfl
  | cons x rest ih =>
    obtain ⟨hx, hrest⟩ := List.forall_mem_cons.mp h
    rw [modifyFirst, if_neg (by rw [hx]; exact Bool.false_ne_true), ih hrest]

/-! ### The record handed on (R37, R62) -/

theorem deliver_channel {m : MadeRecord} {c : ChannelIx} (h : m.owner = .channel c) (s : State) :
    s.deliver m =
      s.setChannel c { s.channel c with arriving := some { record := m.record, outcome := m.outcome } } := by
  simp only [State.deliver, h]

theorem deliver_ticket {m : MadeRecord} {n : Nat} (h : m.owner = .ticket n) (s : State) :
    s.deliver m = s.modifyTicket n (fun t => { t with arrived := some m.record }) := by
  simp only [State.deliver, h]

theorem deliver_replay {m : MadeRecord} (h : m.owner = .replay) (s : State) : s.deliver m = s := by
  simp only [State.deliver, h]

theorem modifyTicket_first {s : State} {n : Nat} {before after : List Ticket} {t : Ticket}
    (hs : s.tickets = before ++ t :: after) (ht : t.number = n) (hb : ∀ x ∈ before, x.number ≠ n) (f : Ticket → Ticket) :
    s.modifyTicket n f = { s with tickets := before ++ f t :: after } := by
  rw [State.modifyTicket, hs,
    modifyFirst_append_cons f (fun x hx => beq_eq_false_iff_ne.mpr (hb x hx)) (beq_iff_eq.mpr ht) after]

theorem modifyTicket_absent {s : State} {n : Nat} (h : ∀ t ∈ s.tickets, t.number ≠ n) (f : Ticket → Ticket) :
    s.modifyTicket n f = s := by
  rw [State.modifyTicket, modifyFirst_of_none f fun t ht => beq_eq_false_iff_ne.mpr (h t ht)]

/-! ### The result accounted (R37, R38) -/

theorem countsAgainstTarget_iff (r : Result) : r.countsAgainstTarget = true ↔
    r = .addrNak ∨ r = .offsetNak ∨ r = .dataNak ∨ r = .stretchTimeout ∨ r = .cycleTimeout := by
  cases r <;> decide

/-- R37: DONE clears the count, and a slot that is not FENCED is ONLINE. -/
theorem account_done (t : Target) :
    t.account .done = { t with count := 0, standing := if t.standing = .fenced then .fenced else .online } := by
  obtain ⟨defn, standing, count⟩ := t
  cases standing <;> rfl

theorem account_counted {r : Result} (hr : r.countsAgainstTarget = true) (t : Target) : t.account r = t.fail := by
  have hd : r ≠ .done := by rintro rfl; cases hr
  rw [Target.account, if_neg hd, if_pos hr]

theorem account_uncounted {r : Result} (hd : r ≠ .done) (hr : ¬r.countsAgainstTarget = true) (t : Target) :
    t.account r = t := by
  rw [Target.account, if_neg hd, if_neg hr]

/-- R38: a failure counted on a slot that is ONLINE or SUSPECT. -/
theorem fail_unfenced {t : Target} (h : t.standing ≠ .fenced) :
    t.fail = { t with count := t.count + 1
                      standing := if t.defn.fenceThreshold ≤ t.count + 1 then .fenced else .suspect } := by
  unfold Target.fail
  split
  · next hs => exact absurd hs h
  · rfl
  · rfl

/-- R38: on a FENCED slot the count does not pass the threshold. -/
theorem fail_fenced {t : Target} (h : t.standing = .fenced) (hc : t.count ≤ t.defn.fenceThreshold) :
    t.fail = { t with count := min (t.count + 1) t.defn.fenceThreshold } := by
  simp only [Target.fail, h, max_eq_right hc]

theorem fencesNext_iff (t : Target) :
    t.fencesNext = true ↔ t.standing ≠ .fenced ∧ t.defn.fenceThreshold ≤ t.count + 1 := by
  simp only [Target.fencesNext, Bool.and_eq_true, bne_iff_ne, decide_eq_true_eq]

section accountSlot
variable {s : State} {n : SlotIx} {r : Result} {t : Target}

/-- R37: a result that does not fence the slot changes the slot alone. -/
theorem accountSlot_silent (ht : (s.slot n).target = some t) (h : ¬(r.countsAgainstTarget = true ∧ t.fencesNext = true)) :
    s.accountSlot n r = s.setSlot n { target := some (t.account r), inFlight := false } := by
  simp only [State.accountSlot, ht, Option.any_some, if_neg h, Option.map_some]

/-- R38: the failure that fences it is noticed and announced. -/
theorem accountSlot_fences (ht : (s.slot n).target = some t) (h : r.countsAgainstTarget = true ∧ t.fencesNext = true) :
    s.accountSlot n r = ((s.setSlot n { target := some (t.account r), inFlight := false }).claim
      (.targetFenced n r)).announceSlot n := by
  simp only [State.accountSlot, ht, Option.any_some, if_pos h, Option.map_some]

end accountSlot

/-- TARGET_ACCOUNTING takes the record out of the engine, accounts its result and hands it on. -/
theorem exec_targetAccounting {s : State} {p : Port} {m : MadeRecord} (hq : s.quiet = true)
    (hm : (s.engine p).record = some m) : exec (.targetAccounting p) s =
      .next (((s.setEngine p { s.engine p with record := none }).accountSlot m.slot m.record.result).deliver m) := by
  change whenOperating s (fun s => s.onTargetAccounting p) = _
  rw [whenOperating_of hq, State.onTargetAccounting, hm]

/-- Settles O43: the record handed to each owner, then each result on a slot by its standing and count. -/
theorem resultAccounted : Obligations.ResultAccounted := by
  refine ⟨fun s m => ⟨fun c hc => deliver_channel hc s,
    fun n hn => ⟨fun before t after hs ht hb => ?_, fun habsent => ?_⟩, fun hr => deliver_replay hr s⟩, ?_⟩
  · rw [deliver_ticket hn, modifyTicket_first hs ht hb]
  · rw [deliver_ticket hn, modifyTicket_absent habsent]
  · intro s p m t hq hm ht taken' counts withTarget
    have hexec := exec_targetAccounting hq hm
    have hcounts : m.record.result.countsAgainstTarget = true ↔ counts := countsAgainstTarget_iff _
    have hsilent (h : ¬(m.record.result.countsAgainstTarget = true ∧ t.fencesNext = true)) :
        exec (.targetAccounting p) s = .next ((withTarget (t.account m.record.result)).deliver m) := by
      rw [hexec, accountSlot_silent (s := s.setEngine p _) ht h]
      rfl
    refine ⟨fun hd => ?_, fun hc hf hlow => ?_, fun hc hf hreach => ?_, fun hc hf hmax => ?_, fun hd hc => ?_⟩
    · rw [hsilent (by rw [hd]; rintro ⟨⟨⟩, _⟩), hd, account_done]
    · have hquiet : ¬t.defn.fenceThreshold ≤ t.count + 1 := by omega
      rw [hsilent (fun h => hquiet ((fencesNext_iff t).mp h.2).2), account_counted (hcounts.mpr hc), fail_unfenced hf,
        if_neg hquiet]
    · rw [hexec, accountSlot_fences (s := s.setEngine p _) ht ⟨hcounts.mpr hc, (fencesNext_iff t).mpr ⟨hf, hreach⟩⟩,
        account_counted (hcounts.mpr hc), fail_unfenced hf, if_pos hreach]
      rfl
    · rw [hsilent (fun h => ((fencesNext_iff t).mp h.2).1 hf), account_counted (hcounts.mpr hc), fail_fenced hf hmax]
    · have hno := mt hcounts.mp hc
      rw [hsilent (fun h => hno h.1), account_uncounted hd hno]

end Sys2Proof.Machine

/-! SUPPORT. The queries TGT_GET, CH_GET, PC_GET and PT_GET (R10, R43, R112, R131) and the records they carry (R75, R191 to
R196). -/

namespace Sys2Proof.Machine

/-! ### The views of an engine (R75, R100) -/

theorem phase_of_not_busy {e : Engine} (h : e.portState ≠ .busy) : e.phase = .none := if_neg h

theorem phase_of_busy {e : Engine} (h : e.portState = .busy) : e.phase = e.activity.phase := if_pos h

theorem recoveryAttempt_none {e : Engine} (h : e.recovery = none) : e.recoveryAttempt = 0 := by
  rw [Engine.recoveryAttempt, h]
  rfl

theorem recoveryAttempt_some {e : Engine} {r : Recovery} (h : e.recovery = some r) : e.recoveryAttempt = r.attempt := by
  rw [Engine.recoveryAttempt, h]
  rfl

/-! ### The channels bound to a pacer (R131, R195) -/

/-- The number that eight flags spell, by the place value of each. -/
theorem ofBits_eight (f : Fin 8 → Bool) : Nat.ofBits f =
    (f 0).toNat + 2 * (f 1).toNat + 4 * (f 2).toNat + 8 * (f 3).toNat + 16 * (f 4).toNat + 32 * (f 5).toNat
      + 64 * (f 6).toNat + 128 * (f 7).toNat := by
  simp only [Nat.ofBits_succ, Nat.ofBits_zero, Function.comp_apply, Fin.reduceSucc, Fin.succ_zero_eq_one]
  omega

/-- R195: the byte of the bound channels is the number that their eight flags spell. -/
theorem boundChannels_eq_ofBits (s : State) (n : PacerIx) :
    s.boundChannels n = Nat.ofBits fun c : ChannelIx => decide ((s.channel c).pacer = some n) := by
  have hbit (c : ChannelIx) : (if (s.channel c).pacer = some n then 2 ^ c.val else 0)
      = 2 ^ c.val * (decide ((s.channel c).pacer = some n)).toNat := by
    by_cases h : (s.channel c).pacer = some n <;> simp [h]
  rw [ofBits_eight]
  simp [State.boundChannels, allChannels, hbit]

theorem boundChannels_testBit (s : State) (n : PacerIx) (c : ChannelIx) :
    (s.boundChannels n).testBit c.val = decide ((s.channel c).pacer = some n) := by
  rw [boundChannels_eq_ofBits, Nat.testBit_ofBits_lt _ _ c.isLt]

theorem boundChannels_lt (s : State) (n : PacerIx) : s.boundChannels n < 256 := by
  rw [boundChannels_eq_ofBits]
  exact Nat.ofBits_lt_two_pow _

/-! ### What each query settles -/

/-- R127: a pacer number in range names its pacer. -/
theorem withPacer_of {payload : List Byte} {n : PacerIx} (h : at1 payload 0 = n.val) (s : State) (f : PacerIx → Settled) :
    withPacer payload s f = f n := by
  unfold withPacer
  rw [dif_pos (h ▸ n.isLt)]
  exact congrArg f (Fin.ext h)

/-- R108: a port's code names the port. -/
theorem withPort_of {payload : List Byte} {p : Port} (h : at1 payload 0 = portCode p) (s : State) (f : Port → Settled) :
    withPort payload s f = f p := by
  rw [withPort, (portOf_eq_some_iff _ p).mpr h.symm]

theorem settleTgtGet_of {payload : List Byte} {n : SlotIx} (hn : at1 payload 0 = n.val) (s : State) :
    settleTgtGet payload s = taken s (slotBytes (s.slot n)) := by
  rw [settleTgtGet, withSlot_of hn]

theorem settlePcGet_of {payload : List Byte} {n : PacerIx} (hn : at1 payload 0 = n.val) (s : State) :
    settlePcGet payload s = taken s (pacerBytes s n) := by
  rw [settlePcGet, withPacer_of hn]

theorem settlePtGet_of {payload : List Byte} {p : Port} (hp : at1 payload 0 = portCode p) (s : State) :
    settlePtGet payload s = taken s (portBytes (s.engine p)) := by
  rw [settlePtGet, withPort_of hp]

section ChGet
variable {payload : List Byte} {s : State} {c : ChannelIx}

theorem settleChGet_record (hc : at1 payload 0 = c.val) (hl : payload.length = 1) :
    settleChGet payload s = taken s (channelBytes s c) := by
  rw [settleChGet, withChannel_of hc, if_pos (by omega)]

/-- R10: with an index the descriptor there follows the record. -/
theorem settleChGet_descriptor (hc : at1 payload 0 = c.val) (hl : payload.length = 2) {d : Descriptor}
    (hd : (s.channel c).ring[at1 payload 1]? = some d) :
    settleChGet payload s = taken s (channelBytes s c ++ d.bytes) := by
  rw [settleChGet, withChannel_of hc, if_neg (by omega), hd]

theorem settleChGet_badValue (hc : at1 payload 0 = c.val) (hl : payload.length = 2)
    (hr : (s.channel c).ring.length ≤ at1 payload 1) : settleChGet payload s = refuse s .badValue := by
  rw [settleChGet, withChannel_of hc, if_neg (by omega), List.getElem?_eq_none hr]

end ChGet

/-! ### The records as they are carried -/

theorem slotBytes_vacant (inFlight : Bool) : slotBytes { target := none, inFlight := inFlight } =
    List.replicate 16 0 ++ byte1 (flagCode inFlight) := rfl

/-- Settles O20: the codes, then each record's bytes, then each query. -/
theorem queriesAnswered : Obligations.QueriesAnswered := by
  refine ⟨fun _ => ⟨rfl, rfl, rfl⟩, fun _ => rfl, rfl, rfl, rfl, fun e => ⟨phase_of_not_busy, fun h => ?_⟩,
    fun e => ⟨recoveryAttempt_none, fun _ => recoveryAttempt_some⟩, rfl, fun _ => rfl, rfl, rfl, rfl, rfl, rfl, rfl,
    fun _ => rfl, slotBytes_vacant, fun t _ => ?_, ⟨rfl, fun _ => rfl⟩, fun s c => ?_,
    fun s n => ⟨boundChannels_testBit s n, boundChannels_lt s n⟩,
    fun s f rest => ⟨fun n ht hn => ?_, fun c ht hc => ⟨fun hl => ?_, fun d hl hd => ?_, fun hl hr => ?_⟩,
      fun n ht hn => ?_, fun p ht hp => ?_⟩⟩
  · rw [phase_of_busy h]
    cases e.activity <;> rfl
  · obtain ⟨defn, standing, count⟩ := t
    cases standing <;> rfl
  · dsimp only [channelBytes]
    cases (s.channel c).head <;> rfl
  · exact answers_of ht (settleTgtGet_of hn (s.takeOldest rest))
  · exact answers_of ht (settleChGet_record (s := s.takeOldest rest) hc hl)
  · exact answers_of ht (settleChGet_descriptor (s := s.takeOldest rest) hc hl hd)
  · exact refuses_of ht (settleChGet_badValue (s := s.takeOldest rest) hc hl hr)
  · exact answers_of ht (settlePcGet_of hn (s.takeOldest rest))
  · exact answers_of ht (settlePtGet_of hp (s.takeOldest rest))

end Sys2Proof.Machine

/-! SUPPORT. The ports along every step (R50, R73 to R75, R100), and host access to staging memory (R53, R54): when a busy range
stands in the way, and what MEM_WRITE and MEM_READ settle. -/

namespace Sys2Proof.Machine

/-! ### The ports' invariants (O59) -/

/-- Settles O59, by what every step keeps. -/
theorem portsKept : Obligations.PortsKept := fun _ _ h => ⟨(Keeps.step h).engines, (Keeps.step h).busy⟩

/-! ### The busy-range list (R49, R50) -/

theorem mem_busyList (s : State) (r : BusyRange) : r ∈ s.busyList ↔ ∃ q, s.busy.get q = some r := by
  refine List.mem_filterMap.trans ⟨fun ⟨q, _, hq⟩ => ⟨q, hq⟩, fun ⟨q, hq⟩ => ⟨q, ?_, hq⟩⟩
  cases q <;> simp [allPorts]

theorem overlaps_iff (r q : BusyRange) :
    r.overlaps q = true ↔ r.first < q.first + q.length ∧ q.first < r.first + r.length := by
  rw [BusyRange.overlaps, Bool.and_eq_true, decide_eq_true_iff, decide_eq_true_iff]

theorem conflicts_iff (r q : BusyRange) : r.conflicts q = true ↔
    r.first < q.first + q.length ∧ q.first < r.first + r.length ∧ (r.direction = .writes ∨ q.direction = .writes) := by
  rw [BusyRange.conflicts, Bool.and_eq_true, overlaps_iff, Bool.or_eq_true, beq_iff_eq, beq_iff_eq, and_assoc]

/-- R53 step 3: an entry of either direction blocks a write. -/
theorem writeBlocked_iff (s : State) (offset count : Nat) : s.writeBlocked offset count = true ↔
    ∃ p r, s.busy.get p = some r ∧ r.first < offset + count ∧ offset < r.first + r.length := by
  simp only [State.writeBlocked, List.any_eq_true, mem_busyList, overlaps_iff]
  exact ⟨fun ⟨r, ⟨p, hp⟩, ho⟩ => ⟨p, r, hp, ho⟩, fun ⟨p, r, hp, ho⟩ => ⟨r, ⟨p, hp⟩, ho⟩⟩

/-- R54 step 3: an entry of direction WRITES blocks a read. -/
theorem readBlocked_iff (s : State) (offset length : Nat) : s.readBlocked offset length = true ↔
    ∃ p r, s.busy.get p = some r ∧ r.direction = .writes ∧ r.first < offset + length ∧ offset < r.first + r.length := by
  simp only [State.readBlocked, List.any_eq_true, Bool.and_eq_true, beq_iff_eq, mem_busyList, overlaps_iff]
  exact ⟨fun ⟨r, ⟨p, hp⟩, ho⟩ => ⟨p, r, hp, ho⟩, fun ⟨p, r, hp, ho⟩ => ⟨r, ⟨p, hp⟩, ho⟩⟩

/-- R53 step 2, R54 step 2. -/
theorem hostRangeWrong_iff (offset count : Nat) :
    hostRangeWrong offset count = true ↔ 8191 < offset ∨ 8192 < offset + count := by
  rw [hostRangeWrong, decide_eq_true_iff]
  rfl

/-- R53 step 1. -/
theorem writeCountFits_iff (payload : List Byte) : writeCountFits payload = true ↔
    1 ≤ at1 payload 2 ∧ at1 payload 2 ≤ 240 ∧ payload.length = 3 + at1 payload 2 :=
  decide_eq_true_iff

/-! ### MEM_WRITE (R53) -/

section MemWrite
variable {payload : List Byte} {s : State}

theorem settleMemWrite_badLength (hf : ¬writeCountFits payload = true) :
    settleMemWrite payload s = refuse s .badLength :=
  if_pos (Bool.not_eq_true _ ▸ hf)

theorem settleMemWrite_badValue (hf : writeCountFits payload = true)
    (hr : hostRangeWrong (at2 payload 0) (at1 payload 2) = true) : settleMemWrite payload s = refuse s .badValue := by
  rw [settleMemWrite, hf, if_neg nofun, if_pos hr]

theorem settleMemWrite_blocked (hf : writeCountFits payload = true)
    (hr : ¬hostRangeWrong (at2 payload 0) (at1 payload 2) = true)
    (hb : s.writeBlocked (at2 payload 0) (at1 payload 2) = true) :
    settleMemWrite payload s = refuse s .busyRange := by
  rw [settleMemWrite, hf, if_neg nofun, if_neg hr, if_pos hb]

theorem settleMemWrite_taken (hf : writeCountFits payload = true)
    (hr : ¬hostRangeWrong (at2 payload 0) (at1 payload 2) = true)
    (hb : ¬s.writeBlocked (at2 payload 0) (at1 payload 2) = true) :
    settleMemWrite payload s =
      taken { s with staging := s.staging.writeBytes (at2 payload 0) (payload.drop 3) } [] := by
  rw [settleMemWrite, hf, if_neg nofun, if_neg hr, if_neg hb]

end MemWrite

/-- R53: what a write of the payload's data bytes leaves at each position. -/
theorem read_writeBytes_payload {m : Memory} (h : m.wf = true) (offset : Nat) {payload : List Byte} {count : Nat}
    (hl : payload.length = 3 + count) (a : Nat) : (m.writeBytes offset (payload.drop 3)).read a =
      if offset ≤ a ∧ a < offset + count then payload.getD (3 + (a - offset)) 0 else m.read a := by
  have hlen : (payload.drop 3).length = count := by rw [List.length_drop]; omega
  rw [Memory.read_writeBytes h, hlen]
  simp only [List.getD_eq_getElem?_getD, List.getElem?_drop]

/-- Settles O21: each refusal in the order of R53, then the bytes stored. -/
theorem memoryWritten : Obligations.MemoryWritten := by
  intro s f rest ht offset count fits blocked
  have hfits : writeCountFits f.payload = true ↔ fits := writeCountFits_iff f.payload
  have hrange := hostRangeWrong_iff offset count
  have hblocked : (s.takeOldest rest).writeBlocked offset count = true ↔ blocked :=
    writeBlocked_iff (s.takeOldest rest) offset count
  have hinside (h1 : offset ≤ 8191) (h2 : offset + count ≤ 8192) : ¬hostRangeWrong offset count = true := by
    rw [hrange]
    omega
  refine ⟨fun hf => ?_, fun hf hr => ?_, fun hf h1 h2 hb => ?_, fun hf h1 h2 hb hw => ?_⟩
  · exact refuses_of ht (settleMemWrite_badLength (mt hfits.mp hf))
  · exact refuses_of ht (settleMemWrite_badValue (hfits.mpr hf) (hrange.mpr hr))
  · exact refuses_of ht (settleMemWrite_blocked (hfits.mpr hf) (hinside h1 h2) (hblocked.mpr hb))
  · exact ⟨s.staging.writeBytes offset (f.payload.drop 3),
      answers_of ht (settleMemWrite_taken (hfits.mpr hf) (hinside h1 h2) (mt hblocked.mp hb)),
      Memory.wf_writeBytes _ _ hw, read_writeBytes_payload hw offset hf.2.2⟩

/-! ### MEM_READ (R54) -/

section MemRead
variable {payload : List Byte} {s : State}

theorem settleMemRead_badLength (hf : ¬(1 ≤ at1 payload 2 ∧ at1 payload 2 ≤ 240)) :
    settleMemRead payload s = refuse s .badLength :=
  if_pos hf

theorem settleMemRead_badValue (hf : 1 ≤ at1 payload 2 ∧ at1 payload 2 ≤ 240)
    (hr : hostRangeWrong (at2 payload 0) (at1 payload 2) = true) : settleMemRead payload s = refuse s .badValue := by
  rw [settleMemRead, if_neg (not_not_intro hf), if_pos hr]

theorem settleMemRead_blocked (hf : 1 ≤ at1 payload 2 ∧ at1 payload 2 ≤ 240)
    (hr : ¬hostRangeWrong (at2 payload 0) (at1 payload 2) = true)
    (hb : s.readBlocked (at2 payload 0) (at1 payload 2) = true) :
    settleMemRead payload s = refuse s .busyRange := by
  rw [settleMemRead, if_neg (not_not_intro hf), if_neg hr, if_pos hb]

theorem settleMemRead_taken (hf : 1 ≤ at1 payload 2 ∧ at1 payload 2 ≤ 240)
    (hr : ¬hostRangeWrong (at2 payload 0) (at1 payload 2) = true)
    (hb : ¬s.readBlocked (at2 payload 0) (at1 payload 2) = true) :
    settleMemRead payload s = taken s (s.staging.readBytes (at2 payload 0) (at1 payload 2)) := by
  rw [settleMemRead, if_neg (not_not_intro hf), if_neg hr, if_neg hb]

end MemRead

/-- Settles O22: each refusal in the order of R54, then the bytes of the reply. -/
theorem memoryRead : Obligations.MemoryRead := by
  intro s f rest ht offset length fits blocked
  have hrange := hostRangeWrong_iff offset length
  have hblocked : (s.takeOldest rest).readBlocked offset length = true ↔ blocked :=
    readBlocked_iff (s.takeOldest rest) offset length
  have hinside (h1 : offset ≤ 8191) (h2 : offset + length ≤ 8192) : ¬hostRangeWrong offset length = true := by
    rw [hrange]
    omega
  refine ⟨fun hf => ?_, fun hf hr => ?_, fun hf h1 h2 hb => ?_, fun hf h1 h2 hb => ?_⟩
  · exact refuses_of ht (settleMemRead_badLength hf)
  · exact refuses_of ht (settleMemRead_badValue hf (hrange.mpr hr))
  · exact refuses_of ht (settleMemRead_blocked hf (hinside h1 h2) (hblocked.mpr hb))
  · exact answers_of ht (settleMemRead_taken hf (hinside h1 h2) (mt hblocked.mp hb))

end Sys2Proof.Machine

/-! SUPPORT. GRANT_OCCASION (R58 to R61): when the occasion can be taken, who wins it, and the transaction that the engine then
takes (R80, R81, R85). -/

namespace Sys2Proof.Machine

/-! ### When an occasion can be taken (R58, log entries 11 and 12) -/

theorem mem_candidateHeads (s : State) (p : Port) (c : ChannelIx) :
    c ∈ s.candidateHeads p ↔ (s.channel c).head = .candidate p := by
  have hall : c ∈ allChannels := by
    revert c
    decide
  rw [State.candidateHeads, List.mem_filter, beq_iff_eq]
  exact and_iff_right hall

theorem mem_candidateTickets (s : State) (p : Port) (t : Ticket) :
    t ∈ s.candidateTickets p ↔ t ∈ s.tickets ∧ t.state = .candidate p := by
  rw [State.candidateTickets, List.mem_filter, beq_iff_eq]

/-- R59: no announcement of a slot is on its way to a candidate of the port. -/
theorem slotNewsFor_eq_false_iff (s : State) (p : Port) : s.slotNewsFor p = false ↔
    (∀ x ∈ s.tickets, x.state = .candidate p → x.transfer.slot ∉ s.slotNews)
    ∧ ∀ c t, (s.channel c).head = .candidate p → (s.channel c).headTransfer = some t → t.slot ∉ s.slotNews := by
  simp only [State.slotNewsFor, Bool.or_eq_false_iff, List.any_eq_false, Option.any_eq_true, List.contains_iff_mem,
    mem_candidateTickets, mem_candidateHeads, and_imp, not_exists, not_and]
  exact and_congr_right fun _ => forall_congr' fun _ => ⟨fun h t hc => h hc t, fun h hc t => h t hc⟩

/-- R59: no failure or disabling of the port is on its way to its candidates. -/
theorem portNewsFor_eq_false_iff (s : State) (p : Port) : s.portNewsFor p = false ↔
    PortState.failed ∉ s.portNews.get p ∧ PortState.disabled ∉ s.portNews.get p := by
  simp [State.portNewsFor]

theorem occasionReady_iff (s : State) (p : Port) : s.occasionReady p = true ↔
    (s.arbiter p).occasion = true ∧ (s.engine p).record = none ∧ s.slotNewsFor p = false ∧ s.portNewsFor p = false := by
  simp only [State.occasionReady, Bool.and_eq_true, Option.isNone_iff_eq_none, Bool.not_eq_true', and_assoc]

/-! ### The winner (R59, R60) -/

/-- R59: a transfer is eligible when its range is free. -/
theorem eligible_iff (s : State) (t : Transfer) :
    s.eligible t = true ↔ ∀ q r, s.busy.get q = some r → t.busyRange.conflicts r = false := by
  simp only [State.eligible, List.all_eq_true, mem_busyList, Bool.not_eq_true', forall_exists_index]
  exact forall_comm

theorem headEligible_iff (s : State) (c : ChannelIx) :
    s.headEligible c = true ↔ ∃ t, (s.channel c).headTransfer = some t ∧ s.eligible t = true :=
  Option.any_eq_true _ _

/-- R60 item 1. -/
theorem winningTicket_first {s : State} {p : Port} {before after : List Ticket} {t : Ticket}
    (hs : s.tickets = before ++ t :: after) (ht : t.state = .candidate p) (he : s.eligible t.transfer = true)
    (hb : ∀ x ∈ before, x.state = .candidate p → ¬s.eligible x.transfer = true) : s.winningTicket p = some t := by
  have hnone : before.find? (fun x => x.state == .candidate p && s.eligible x.transfer) = none := by
    simpa using hb
  rw [State.winningTicket, State.candidateTickets, List.find?_filter, hs]
  simp only [Bool.decide_and, Bool.decide_eq_true, List.find?_append, hnone, Option.none_or]
  exact List.find?_cons_of_pos (by simp [ht, he])

theorem winningTicket_none {s : State} {p : Port}
    (h : ∀ x ∈ s.tickets, x.state = .candidate p → ¬s.eligible x.transfer = true) : s.winningTicket p = none :=
  List.find?_eq_none.mpr fun x hx =>
    have ⟨hmem, hstate⟩ := (mem_candidateTickets s p x).mp hx
    h x hmem hstate

/-- A head of higher priority than the best so far is the better one. -/
theorem betterHead_of_below {s : State} {best : Option ChannelIx} {c : ChannelIx}
    (h : ∀ b, best = some b → (s.channel b).priority.rank < (s.channel c).priority.rank) :
    s.betterHead best c = some c := by
  cases best with
  | none => rfl
  | some b => exact if_pos (h b rfl)

/-- Among heads of ranks below a bound the best one's is. -/
theorem foldl_betterHead_below {s : State} {bound : Nat} (cs : List ChannelIx)
    (hcs : ∀ k ∈ cs, (s.channel k).priority.rank < bound) {best : Option ChannelIx}
    (hbest : ∀ b, best = some b → (s.channel b).priority.rank < bound) :
    ∀ b, cs.foldl s.betterHead best = some b → (s.channel b).priority.rank < bound := by
  induction cs generalizing best with
  | nil => exact hbest
  | cons k rest ih =>
    obtain ⟨hk, hrest⟩ := List.forall_mem_cons.mp hcs
    refine ih hrest fun b hb => ?_
    unfold State.betterHead at hb
    split at hb
    · exact Option.some.inj hb ▸ hk
    · next a =>
      split at hb
      · exact Option.some.inj hb ▸ hk
      · exact Option.some.inj hb ▸ hbest a rfl

/-- Among heads of no higher priority the first one stays the best. -/
theorem foldl_betterHead_stays {s : State} {c : ChannelIx} {cs : List ChannelIx}
    (h : ∀ k ∈ cs, (s.channel k).priority.rank ≤ (s.channel c).priority.rank) :
    cs.foldl s.betterHead (some c) = some c := by
  induction cs with
  | nil => rfl
  | cons k rest ih =>
    obtain ⟨hk, hrest⟩ := List.forall_mem_cons.mp h
    have hstep : s.betterHead (some c) k = some c := if_neg (Nat.not_lt.mpr hk)
    rw [List.foldl_cons, hstep, ih hrest]

/-- R60 items 2 and 3: the eligible head of highest priority, and among equals of the lowest channel, wins. -/
theorem winningHead_eq {s : State} {p : Port} {c : ChannelIx} (hc : (s.channel c).head = .candidate p)
    (he : s.headEligible c = true)
    (hbest : ∀ k, (s.channel k).head = .candidate p → s.headEligible k = true →
      (s.channel k).priority.rank < (s.channel c).priority.rank
        ∨ ((s.channel k).priority = (s.channel c).priority ∧ c ≤ k)) :
    s.winningHead p = some c := by
  have hmem : ∀ k, k ∈ (s.candidateHeads p).filter s.headEligible ↔
      (s.channel k).head = .candidate p ∧ s.headEligible k = true := fun k => by
    rw [List.mem_filter, mem_candidateHeads]
  have hsorted : ((s.candidateHeads p).filter s.headEligible).Pairwise (· < ·) :=
    ((by decide : allChannels.Pairwise (· < ·)).filter _).filter _
  unfold State.winningHead
  obtain ⟨before, after, hsplit⟩ := List.append_of_mem ((hmem c).mpr ⟨hc, he⟩)
  have hin : ∀ k ∈ before ++ c :: after, (s.channel k).priority.rank < (s.channel c).priority.rank
      ∨ ((s.channel k).priority = (s.channel c).priority ∧ c ≤ k) := fun k hk =>
    have ⟨hhead, helig⟩ := (hmem k).mp (hsplit ▸ hk)
    hbest k hhead helig
  rw [hsplit] at hsorted ⊢
  have hbefore : ∀ k ∈ before, (s.channel k).priority.rank < (s.channel c).priority.rank := fun k hk =>
    have hlt : k < c := (List.pairwise_append.mp hsorted).2.2 k hk c List.mem_cons_self
    (hin k (List.mem_append_left _ hk)).resolve_right fun h => absurd h.2 (not_le.mpr hlt)
  have hafter : ∀ k ∈ after, (s.channel k).priority.rank ≤ (s.channel c).priority.rank := fun k hk =>
    (hin k (List.mem_append_right _ (List.mem_cons_of_mem _ hk))).elim Nat.le_of_lt fun h => by rw [h.1]
  rw [List.foldl_append, List.foldl_cons, betterHead_of_below (foldl_betterHead_below (best := none) before hbefore nofun),
    foldl_betterHead_stays hafter]

theorem winningHead_none {s : State} {p : Port}
    (h : ∀ k, (s.channel k).head = .candidate p → ¬s.headEligible k = true) : s.winningHead p = none := by
  have hnil : (s.candidateHeads p).filter s.headEligible = [] :=
    List.filter_eq_nil_iff.mpr fun k hk => h k ((mem_candidateHeads s p k).mp hk)
  rw [State.winningHead, hnil]
  rfl

/-! ### The beginning of a transaction (R80, R81, R85) -/

theorem PerPort.set_get_self {α : Type} (v : PerPort α) (p : Port) : v.set p (v.get p) = v := by
  cases p <;> rfl

/-- A port that takes a state other than IDLE announces it when it is a new one, and no occasion arises (R58, R107). -/
theorem enterPortState_not_idle {s : State} {p : Port} {st : PortState} (h : st ≠ .idle) :
    s.enterPortState p st =
      { s with
        engines := s.engines.set p { s.engine p with portState := st }
        portNews := s.portNews.set p
          (if s.portState p = st then s.portNews.get p else s.portNews.get p ++ [st]) } := by
  unfold State.enterPortState
  split
  · next hp =>
    have he : ({ s.engine p with portState := st } : Engine) = s.engine p := by rw [← hp]; rfl
    rw [he, State.engine, PerPort.set_get_self, PerPort.set_get_self]
  · rfl

theorem segmented_iff (t : Transaction) : t.segmented = true ↔ t.defn.kind = .memory ∧ t.transfer.op = .write := by
  rw [Transaction.segmented, Bool.and_eq_true, beq_iff_eq, beq_iff_eq]

/-- R81: with both lines high the first attempt begins. -/
theorem beginTransaction_high (s : State) (p : Port) (t : Transaction) {lines : Lines} (h : lines.bothHigh = true) :
    s.beginTransaction p t lines =
      { s with
        engines := s.engines.set p (({ (s.engine p).take t with portState := .busy } : Engine).beginFirstAttempt t)
        portNews := s.portNews.set p
          (if s.portState p = .busy then s.portNews.get p else s.portNews.get p ++ [.busy]) } := by
  rw [State.beginTransaction, if_pos h, enterPortState_not_idle (st := .busy) nofun]
  cases p <;> rfl

/-- R81: with a line low the port goes to RECOVERING. -/
theorem beginTransaction_low (s : State) (p : Port) (t : Transaction) {lines : Lines} (h : lines.bothHigh = false) :
    s.beginTransaction p t lines =
      { s with
        engines := s.engines.set p { ((s.engine p).take t).beginRecovery false with portState := .recovering }
        portNews := s.portNews.set p
          ((if s.portState p = .busy then s.portNews.get p else s.portNews.get p ++ [.busy]) ++ [.recovering]) } := by
  rw [State.beginTransaction, h, if_neg Bool.false_ne_true, enterPortState_not_idle (st := .busy) nofun,
    State.enterRecovery, enterPortState_not_idle (st := .recovering) nofun]
  cases p <;> rfl

/-! ### The grant (R61) -/

/-- R61: a grant as its occasion passes. -/
theorem grantTo_setArbiter (s : State) (p : Port) (x : Arbiter) (owner : Owner) (index : Nat) (t : Transfer)
    (d : Definition) (lines : Lines) : (s.setArbiter p x).grantTo p owner index t d lines =
      ({ s with
          busy := s.busy.set p (some t.busyRange)
          slots := s.slots.set t.slot { s.slot t.slot with inFlight := true }
          arbiters := s.arbiters.set p { x with grant := some owner } } : State).beginTransaction p
        { owner := owner, index := index, transfer := t, defn := d } lines := by
  cases p <;> rfl

theorem grantWinner_ticket {s : State} {p : Port} {t : Ticket} (h : s.winningTicket p = some t) (lines : Lines) :
    s.grantWinner p lines = s.grantTicket p t lines := by
  rw [State.grantWinner, h]

theorem grantWinner_head {s : State} {p : Port} {c : ChannelIx} (ht : s.winningTicket p = none)
    (hc : s.winningHead p = some c) (lines : Lines) : s.grantWinner p lines = s.grantHead p c lines := by
  rw [State.grantWinner, ht]
  dsimp only
  rw [hc]

theorem grantWinner_none {s : State} {p : Port} (ht : s.winningTicket p = none) (hc : s.winningHead p = none)
    (lines : Lines) : s.grantWinner p lines = s := by
  rw [State.grantWinner, ht]
  dsimp only
  rw [hc]

theorem grantTicket_first {s : State} {p : Port} {before after : List Ticket} {t : Ticket} {g : Target}
    (hs : s.tickets = before ++ t :: after) (hb : ∀ x ∈ before, x.number ≠ t.number)
    (hg : (s.slot t.transfer.slot).target = some g) (lines : Lines) :
    s.grantTicket p t lines =
      ({ s with tickets := before ++ { t with state := .inFlight } :: after } : State).grantTo p (.ticket t.number) 0
        t.transfer g.defn lines := by
  rw [State.grantTicket, hg, modifyTicket_first hs rfl hb]

theorem grantHead_of {s : State} {p : Port} {c : ChannelIx} {t : Transfer} {g : Target}
    (ht : (s.channel c).headTransfer = some t) (hg : (s.slot t.slot).target = some g) (lines : Lines) :
    s.grantHead p c lines =
      (s.setChannel c { s.channel c with head := .onPort p }).grantTo p (.channel c) (s.channel c).position t g.defn
        lines := by
  rw [State.grantHead, ht]
  dsimp only
  rw [hg]

/-- GRANT_OCCASION at a port that is not IDLE: the occasion passes. -/
theorem exec_grantOccasion_passes {s : State} {p : Port} (hq : s.quiet = true) (hr : s.occasionReady p = true)
    (hp : s.portState p ≠ .idle) (lines : Lines) :
    exec (.grantOccasion p lines) s = .next (s.setArbiter p { s.arbiter p with occasion := false }) := by
  change whenOperating s (fun s => s.onGrantOccasion p lines) = _
  rw [whenOperating_of hq, State.onGrantOccasion, if_pos hr]
  dsimp only
  rw [if_neg hp]

/-- GRANT_OCCASION at an IDLE port: the winner is granted. -/
theorem exec_grantOccasion_idle {s : State} {p : Port} (hq : s.quiet = true) (hr : s.occasionReady p = true)
    (hp : s.portState p = .idle) (lines : Lines) :
    exec (.grantOccasion p lines) s =
      .next ((s.setArbiter p { s.arbiter p with occasion := false }).grantWinner p lines) := by
  change whenOperating s (fun s => s.onGrantOccasion p lines) = _
  rw [whenOperating_of hq, State.onGrantOccasion, if_pos hr]
  dsimp only
  rw [if_pos hp]

/-- Settles O45: when the occasion can be taken, what the engine takes, then the winner granted or the occasion passed. -/
theorem portGranted : Obligations.PortGranted := by
  refine ⟨fun s p => ?_, fun t => ?_, conflicts_iff, fun s p t lines => ⟨fun h => ?_, fun h => ?_⟩, ?_⟩
  · rw [occasionReady_iff, slotNewsFor_eq_false_iff, portNewsFor_eq_false_iff, and_assoc]
  · obtain ⟨op, slot, offset, length, position⟩ := t
    cases op <;> rfl
  · rw [beginTransaction_high s p t h, Engine.beginFirstAttempt, if_congr (segmented_iff t) rfl rfl]
    rfl
  · rw [beginTransaction_low s p t h]
    rfl
  · intro s p lines hq hr passed free granted
    refine ⟨fun hp => exec_grantOccasion_passes hq hr hp lines, fun hp => ?_⟩
    have hfree (t : Transfer) : passed.eligible t = true ↔ free t := eligible_iff passed t
    have hexec : exec (.grantOccasion p lines) s = .next (passed.grantWinner p lines) :=
      exec_grantOccasion_idle hq hr hp lines
    rw [hexec]
    refine ⟨fun before t after g hs hstate ht hb hg => ?_, fun hnone => ?_⟩
    · have hwin : passed.winningTicket p = some t :=
        winningTicket_first hs hstate ((hfree _).mpr ht) fun x hx hc => mt (hfree _).mp ((hb x hx).2 hc)
      rw [grantWinner_ticket hwin, grantTicket_first (s := passed) hs (fun x hx => (hb x hx).1) hg]
      exact congrArg _ (grantTo_setArbiter
        { s with tickets := before ++ { t with state := .inFlight } :: after } p _ _ _ _ _ _)
    · have hticket : passed.winningTicket p = none :=
        winningTicket_none fun x hx hc => mt (hfree _).mp (hnone x hx hc)
      refine ⟨fun c t g hhead htr ht hbest hg => ?_, fun hheads => ?_⟩
      · have hwin : passed.winningHead p = some c := by
          refine winningHead_eq hhead ((headEligible_iff _ _).mpr ⟨t, htr, (hfree t).mpr ht⟩) fun k hk hek => ?_
          obtain ⟨u, hu, heu⟩ := (headEligible_iff _ _).mp hek
          exact hbest k u hk hu ((hfree u).mp heu)
        rw [grantWinner_head hticket hwin, grantHead_of (s := passed) htr hg]
        exact congrArg _ (grantTo_setArbiter (s.setChannel c { s.channel c with head := .onPort p }) p _ _ _ _ _ _)
      · have hwin : passed.winningHead p = none := winningHead_none fun k hk hek => by
          obtain ⟨u, hu, heu⟩ := (headEligible_iff _ _).mp hek
          exact hheads k u hk hu ((hfree u).mp heu)
        rw [grantWinner_none hticket hwin]

end Sys2Proof.Machine

/-! SUPPORT. The Direct Queue (R64 to R70): the number of a new ticket, XFER and XFER_CANCEL, and the evaluation of a ticket. -/

namespace Sys2Proof.Machine

/-! ### The descriptor of an XFER (R65 step 2) -/

theorem xferTransferOf_eq_some_iff (b : List Byte) (t : Transfer) :
    xferTransferOf b = some t ↔ descriptorOf b = some (.transfer t) ∧ ∀ mode, t.op ≠ .watch mode true := by
  cases hd : descriptorOf b with
  | none => simp [xferTransferOf, hd]
  | some d =>
    cases d with
    | pause ms => simp [xferTransferOf, hd]
    | transfer u =>
      rw [xferTransferOf, hd, Option.some.injEq, Descriptor.transfer.injEq]
      have hiff (hop : ∀ mode, u.op ≠ .watch mode true) : some u = some t ↔ u = t ∧ ∀ mode, t.op ≠ .watch mode true := by
        rw [Option.some.injEq]
        exact (and_iff_left_of_imp fun h => h ▸ hop).symm
      dsimp only
      split
      · next hop => exact hiff (by simp [hop])
      · next hop => exact hiff (by simp [hop])
      · next mode hold hop =>
        cases hold with
        | false => exact hiff (by simp [hop])
        | true =>
          refine iff_of_false nofun ?_
          rintro ⟨rfl, h⟩
          exact h mode hop

/-! ### The number of a new ticket (R64) -/

/-- R64: the numbers from next on are distinct for 256 steps, so as many of them as are used bound the search. -/
theorem le_length_of_used {used : List Nat} {next k : Nat} (hk : k ≤ 256) (h : ∀ j < k, (next + j) % 256 ∈ used) :
    k ≤ used.length := by
  have hnodup : ((List.range k).map (fun j => (next + j) % 256)).Nodup := by
    refine List.Nodup.map_on (fun x hx y hy hxy => ?_) List.nodup_range
    rw [List.mem_range] at hx hy
    omega
  have hsub : (List.range k).map (fun j => (next + j) % 256) ⊆ used := by
    simpa only [List.map_subset_iff, List.subset_def, List.mem_map, List.mem_range, forall_exists_index, and_imp,
      forall_apply_eq_imp_iff₂] using h
  simpa only [List.length_map, List.length_range] using (hnodup.subperm hsub).length_le

/-- R64: the number found is the first from next on that is not used. -/
theorem freshNumber_first {used : List Nat} (next : Nat) (h : used.length < 256) :
    ∃ k ≤ used.length, freshNumber used next = (next + k) % 256 ∧ ∀ j < k, (next + j) % 256 ∈ used := by
  cases hf : (List.range 256).find? (fun i => !used.contains ((next + i) % 256)) with
  | none =>
    have hall : ∀ i < 256, (next + i) % 256 ∈ used := by simpa using hf
    exact absurd (le_length_of_used (Nat.le_refl 256) hall) (by omega)
  | some k =>
    obtain ⟨_, hk, hbefore⟩ := List.find?_range_eq_some.mp hf
    have hused : ∀ j < k, (next + j) % 256 ∈ used := by simpa using hbefore
    refine ⟨k, le_length_of_used (List.mem_range.mp hk).le hused, ?_, hused⟩
    rw [freshNumber, List.find?_map]
    exact congrArg (fun o => (Option.map (fun i => (next + i) % 256) o).getD (next % 256)) hf

theorem nextTicketNumber_first {s : State} (h : s.tickets.length < 4) :
    (∀ u ∈ s.tickets, u.number ≠ s.nextTicketNumber)
    ∧ ∃ k ≤ s.tickets.length, s.nextTicketNumber = (s.nextTicket + k) % 256
      ∧ ∀ j < k, ∃ u ∈ s.tickets, u.number = (s.nextTicket + j) % 256 := by
  have hlen : (s.tickets.map (·.number)).length < 256 := by
    rw [List.length_map]
    omega
  have hfresh := freshNumber_not_mem s.nextTicket hlen
  obtain ⟨k, hk, heq, hused⟩ := freshNumber_first s.nextTicket hlen
  rw [List.length_map] at hk
  exact ⟨fun u hu heq => hfresh (List.mem_map.mpr ⟨u, hu, heq⟩), k, hk, heq, fun j hj => List.mem_map.mp (hused j hj)⟩

/-! ### XFER (R65, R66) -/

/-- A frame that reaches its owner is answered with what the owner settles, and what is to follow the reply comes after it. -/
theorem interpret_taken {s : State} {kind : CommandKind} {f : CommandFrame} {rest : List CommandFrame}
    (h : Takes s kind f rest) {settle : List Byte → State → Settled} {r : Settled}
    (hs : settle f.payload (s.takeOldest rest) = r) (after : Nat → State → State) :
    whenOperating s (interpret kind settle after) =
      .next (r.evaluate.elim (r.state.answer f r.status r.fields)
        fun n => after n (r.state.answer f r.status r.fields)) := by
  obtain ⟨hq, hin, hfree, hkind, hfresh, hadm, hlen⟩ := h
  have hlink : settleFromLink kind settle f.payload (s.takeOldest rest) = r := by
    rw [settleFromLink, if_neg, hlen, if_neg Bool.false_ne_true.symm, hs]
    rintro ⟨hstart, hno⟩
    rcases hadm with hready | hyes
    · cases hready.symm.trans hstart
    · cases hno.symm.trans hyes
  have htakes : (s.canTakeFrame && commandKindOf f.kind.toNat == some kind && !s.isRepeat f) = true := by
    rw [hfree, hkind, hfresh, beq_self_eq_true]
    rfl
  rw [whenOperating_of hq, interpret, hin]
  dsimp only
  rw [if_pos htakes, hlink]
  cases r.evaluate <;> rfl

section Xfer
variable {s : State} {f : CommandFrame} {rest : List CommandFrame} {t : Transfer} {g : Target}

theorem Takes.xfer_length (h : Takes s .xfer f rest) : f.payload.length = 8 := by
  have hfits := of_decide_eq_true h.length
  exact Nat.le_antisymm hfits.2 hfits.1

theorem refuses_xfer {st : Status} (h : Takes s .xfer f rest)
    (hs : settleXfer f.payload (s.takeOldest rest) = refuse (s.takeOldest rest) st) : Refuses .xfer s f rest st :=
  interpret_taken h hs fun n u => u.evaluateTicket n

variable {payload : List Byte} (hl : payload.length = 8)
include hl

theorem settleXfer_badValue (ht : xferTransferOf payload = none) : settleXfer payload s = refuse s .badValue := by
  rw [settleXfer, if_neg (not_not_intro hl), ht]

variable (ht : xferTransferOf payload = some t)
include ht

theorem settleXfer_noRoom (hn : 4 ≤ s.tickets.length) : settleXfer payload s = refuse s .noRoom := by
  rw [settleXfer, if_neg (not_not_intro hl), ht]
  exact if_pos hn

variable (hn : s.tickets.length < 4)
include hn

theorem settleXfer_noTarget (hg : (s.slot t.slot).target = none) : settleXfer payload s = refuse s .noTarget := by
  rw [settleXfer, if_neg (not_not_intro hl), ht]
  dsimp only
  rw [if_neg (Nat.not_le.mpr hn), hg]

variable (hg : (s.slot t.slot).target = some g)
include hg

theorem settleXfer_of : settleXfer payload s =
    if rangeWrong t g.defn then refuse s .range
    else
      { state := s.createTicket t, status := .ok, fields := byte1 s.nextTicketNumber,
        evaluate := some s.nextTicketNumber } := by
  rw [settleXfer, if_neg (not_not_intro hl), ht]
  dsimp only
  rw [if_neg (Nat.not_le.mpr hn), hg]

end Xfer

/-- An accepted XFER: the ticket is created and answered, and then evaluated (R66). -/
theorem exec_xfer_accepted {s : State} {f : CommandFrame} {rest : List CommandFrame} {t : Transfer} {g : Target}
    (h : Takes s .xfer f rest) (ht : xferTransferOf f.payload = some t) (hn : s.tickets.length < 4)
    (hg : (s.slot t.slot).target = some g) (hr : rangeWrong t g.defn = false) :
    exec .xfer s = .next
      ((((s.takeOldest rest).createTicket t).answer f .ok (byte1 s.nextTicketNumber)).evaluateTicket s.nextTicketNumber) :=
  interpret_taken h ((settleXfer_of (s := s.takeOldest rest) h.xfer_length ht hn hg).trans (if_neg (by rw [hr]; nofun)))
    fun n u => u.evaluateTicket n

/-! ### XFER_CANCEL (R70) -/

theorem settleXferCancel_badValue {payload : List Byte} {s : State} (h : s.ticket (at1 payload 0) = none) :
    settleXferCancel payload s = refuse s .badValue := by
  rw [settleXferCancel, h]

theorem settleXferCancel_of {payload : List Byte} {s : State} {t : Ticket} (h : s.ticket (at1 payload 0) = some t) :
    settleXferCancel payload s =
      if t.state = .inFlight then refuse s .busy else taken (s.dropTicket (at1 payload 0)) [] := by
  rw [settleXferCancel, h]

/-! ### The evaluation of a ticket (R67) -/

theorem evaluateTicket_absent {s : State} {n : Nat} (h : ∀ t ∈ s.tickets, t.number ≠ n) : s.evaluateTicket n = s := by
  have hnone : s.ticket n = none := List.find?_eq_none.mpr fun t ht => mt beq_iff_eq.mp (h t ht)
  rw [State.evaluateTicket, hnone]

/-- R16: a range that keeps to the extent, and on a STREAM target begins at 0, is not wrong. -/
theorem rangeWrong_eq_false {t : Transfer} {d : Definition} (hext : t.offset + t.length ≤ d.extent)
    (hstream : d.kind = .stream → t.offset = 0) : rangeWrong t d = false := by
  rw [Bool.eq_false_iff, Ne, rangeWrong_iff]
  rintro (h | ⟨hk, h⟩)
  · omega
  · exact h (hstream hk)

section Evaluation
variable {s : State} {n : Nat} {before after : List Ticket} {t : Ticket}
  (hs : s.tickets = before ++ t :: after) (hn : t.number = n) (hb : ∀ u ∈ before, u.number ≠ n)
include hs hn hb

theorem ticket_first : s.ticket n = some t := by
  have hnone : before.find? (fun u => u.number == n) = none :=
    List.find?_eq_none.mpr fun u hu => mt beq_iff_eq.mp (hb u hu)
  rw [State.ticket, hs, List.find?_append, hnone, Option.none_or]
  exact List.find?_cons_of_pos (beq_iff_eq.mpr hn)

theorem completeTicket_first (r : Record) :
    s.completeTicket n r = { s with tickets := before ++ after, out := s.out.claim (.xferDone n r.result r.moved) } := by
  have herase : s.tickets.eraseP (fun u => u.number == n) = before ++ after := by
    rw [hs, List.eraseP_append_right _ fun u hu => mt beq_iff_eq.mp (hb u hu),
      List.eraseP_cons_of_pos (p := fun u : Ticket => u.number == n) (beq_iff_eq.mpr hn)]
  rw [State.completeTicket, herase, claim_eq]

variable (hq : t.state ≠ .inFlight)
include hq

/-- A ticket that fails at once is removed with its notice. -/
theorem evaluateTicket_fails {r : Result} (he : evaluateTransfer s t.transfer = .fails r) :
    s.evaluateTicket n = { s with tickets := before ++ after, out := s.out.claim (.xferDone n r 0) } := by
  rw [State.evaluateTicket, ticket_first hs hn hb]
  dsimp only
  rw [if_neg hq, he]
  exact completeTicket_first hs hn hb _

theorem evaluateTicket_waits (he : evaluateTransfer s t.transfer = .waits) :
    s.evaluateTicket n = { s with tickets := before ++ { t with state := .waiting } :: after } := by
  rw [State.evaluateTicket, ticket_first hs hn hb]
  dsimp only
  rw [if_neg hq, he]
  exact modifyTicket_first hs hn hb _

variable {p : Port} (he : evaluateTransfer s t.transfer = .candidate p)
include he

theorem evaluateTicket_candidate_again (hc : t.state = .candidate p) : s.evaluateTicket n = s := by
  rw [State.evaluateTicket, ticket_first hs hn hb]
  dsimp only
  rw [if_neg hq, he]
  exact if_pos hc

theorem evaluateTicket_candidate_new (hc : t.state ≠ .candidate p) :
    s.evaluateTicket n =
      ({ s with tickets := before ++ { t with state := .candidate p } :: after } : State).raiseOccasionIfIdle p := by
  rw [State.evaluateTicket, ticket_first hs hn hb]
  dsimp only
  rw [if_neg hq, he]
  dsimp only
  rw [if_neg hc, modifyTicket_first hs hn hb]

end Evaluation

/-- Settles O33: the descriptor of an XFER, XFER and XFER_CANCEL in the order of their rules, then the evaluation of a ticket by
what the evaluation of its transfer answers. -/
theorem directQueueCommands : Obligations.DirectQueueCommands := by
  refine ⟨xferTransferOf_eq_some_iff, fun s f rest => ⟨fun h => ⟨fun ht => ?_, fun t ht => ⟨fun hn => ?_, fun hn hg => ?_,
    fun g hn hg => ⟨fun hr => ?_, fun hext hstream => ?_⟩⟩⟩,
    fun h => ⟨fun ht => ?_, fun t ht => ⟨fun hf => ?_, fun hf => ?_⟩⟩⟩, fun s n => evaluateTicket_absent, ?_⟩
  · exact refuses_xfer h (settleXfer_badValue h.xfer_length ht)
  · exact refuses_xfer h (settleXfer_noRoom h.xfer_length ht hn)
  · exact refuses_xfer h (settleXfer_noTarget h.xfer_length ht hn hg)
  · exact refuses_xfer h
      ((settleXfer_of (s := s.takeOldest rest) h.xfer_length ht hn hg).trans (if_pos ((rangeWrong_iff t g.defn).mpr hr)))
  · obtain ⟨hfresh, k, hk, hnumber, hused⟩ := nextTicketNumber_first hn
    exact ⟨k, s.nextTicketNumber, hk, hnumber, hfresh, hused,
      exec_xfer_accepted h ht hn hg (rangeWrong_eq_false hext hstream)⟩
  · exact refuses_of h (settleXferCancel_badValue ht)
  · exact refuses_of h ((settleXferCancel_of (s := s.takeOldest rest) ht).trans (if_pos hf))
  · exact answers_of h ((settleXferCancel_of (s := s.takeOldest rest) ht).trans (if_neg hf))
  intro s n before after t hs hn hb tr standing
  refine ⟨evaluateTicket_inFlight (ticket_first hs hn hb), fun hq => ⟨fun r hr => ?_, ?_⟩⟩
  · have hfails : FailsAtOnce s tr r := by
      rcases hr with ⟨hg, rfl⟩ | ⟨g, hg, hst, rfl⟩ | ⟨g, hg, hst, hp, rfl⟩ | ⟨g, hg, hst, hp, hr, rfl⟩
      · exact .vacant hg
      · exact .fenced hg hst
      · exact .failed hg hst hp
      · exact .range hg hst hp ((rangeWrong_iff tr g.defn).mpr hr)
    exact evaluateTicket_fails hs hn hb hq (evaluateTransfer_fails hfails)
  intro g hg hst hext hstream p
  have hserved (hfail : s.portState p ≠ .failed) :
      evaluateTransfer s tr = if s.portState p = .disabled then .waits else .candidate p :=
    evaluateTransfer_served hg hst hfail (rangeWrong_eq_false hext hstream)
  refine ⟨fun hdis => ?_, fun hdis hfail => ?_⟩
  · exact evaluateTicket_waits hs hn hb hq ((hserved (by rw [hdis]; nofun)).trans (if_pos hdis))
  · have he : evaluateTransfer s tr = .candidate p := (hserved hfail).trans (if_neg hdis)
    have hnew (hc : t.state ≠ .candidate p) : s.evaluateTicket n = (standing (.candidate p)).raiseOccasionIfIdle p :=
      evaluateTicket_candidate_new hs hn hb hq he hc
    exact ⟨evaluateTicket_candidate_again hs hn hb hq he, fun hc hidle => (hnew hc).trans (if_pos hidle),
      fun hc hbusy => (hnew hc).trans (if_neg hbusy)⟩

end Sys2Proof.Machine

/-! SUPPORT. The steps of a BUSY port's engine (R75 to R94): what each bus event makes of the engine, by what the engine is
doing, and the step of the table that takes it. -/

namespace Sys2Proof.Machine

/-! ### What a transaction sends (R77, R84 to R86) -/

theorem receives_iff (t : Transaction) : t.receives = true ↔ t.transfer.op ≠ .write := by
  rw [Transaction.receives, bne_iff_ne]

theorem opensWithRead_eq (t : Transaction) :
    t.opensWithRead = decide (t.transfer.op ≠ .write ∧ t.defn.offsetWidth = 0) := by
  rw [Bool.eq_iff_iff, decide_eq_true_iff, Transaction.opensWithRead, Bool.and_eq_true, receives_iff, beq_iff_eq]

theorem afterOffset_eq (t : Transaction) (k : Nat) : t.afterOffset k =
    if k + 1 < t.defn.offsetWidth then .offset (k + 1)
    else if t.transfer.op ≠ .write then .formRestart else .dataOut 0 := by
  rw [Transaction.afterOffset, if_congr (receives_iff t) rfl rfl]

/-- The staging position of a data byte sent: a memory write goes on from the bytes confirmed (R85). -/
theorem sourcePosition_eq (e : Engine) (t : Transaction) (k : Nat) :
    e.sourcePosition t k = t.transfer.position + (if t.segmented then e.confirmed else 0) + k := by
  rw [Engine.sourcePosition]
  split <;> rfl

theorem dataOutLength_whole {e : Engine} {t : Transaction} (h : t.segmented = false) :
    e.dataOutLength t = t.transfer.length := by
  rw [Engine.dataOutLength, h]
  split <;> rfl

theorem dataOutLength_segment {e : Engine} {t : Transaction} {sg : Segment} (h : t.segmented = true)
    (hs : e.segment = some sg) : e.dataOutLength t = sg.length := by
  rw [Engine.dataOutLength, hs]
  exact if_pos h

/-! ### BYTE_COMPLETE (R76, R82 to R86, R93) -/

/-- A NAK leads to the STOP that closes the attempt, as any other next activity is led to (R93). -/
theorem closeOnNak_eq (e : Engine) (r : Result) : e.closeOnNak r = e.unlessAborted (.formStop (.nak r)) := by
  rw [Engine.closeOnNak, Engine.unlessAborted, apply_ite Activity.formStop]

section ByteClocked
variable {e : Engine} {t : Transaction} {data : Byte} {ack : Bool} {k : Nat}

theorem byteClocked_address {read again : Bool} (h : e.activity = .address read again) :
    e.byteClocked t data ack = e.unlessAborted
      (if ack then t.afterAddress read else .formStop (.nak (if again then .dataNak else .addrNak))) := by
  rw [Engine.byteClocked, h]
  cases ack
  · exact closeOnNak_eq e _
  · rfl

theorem byteClocked_offset (h : e.activity = .offset k) :
    e.byteClocked t data ack = e.unlessAborted (if ack then t.afterOffset k else .formStop (.nak .offsetNak)) := by
  rw [Engine.byteClocked, h]
  cases ack
  · exact closeOnNak_eq e _
  · rfl

theorem byteClocked_dataOut_ack (h : e.activity = .dataOut k) :
    e.byteClocked t data true =
      ({ e with moved := e.moved + 1 } : Engine).unlessAborted (t.afterDataOut k (e.dataOutLength t)) := by
  rw [Engine.byteClocked, h]
  rfl

theorem byteClocked_dataOut_nak (h : e.activity = .dataOut k) :
    e.byteClocked t data false = e.unlessAborted (.formStop (.nak .dataNak)) := by
  rw [Engine.byteClocked, h]
  exact closeOnNak_eq e _

theorem gather_read {e : Engine} (hop : t.transfer.op = .read) : e.gather t k data = e := by
  simp only [Engine.gather, hop]

theorem gather_watch {e : Engine} {mode : WatchMode} {hold : Bool} (hop : t.transfer.op = .watch mode hold) :
    e.gather t k data = { e with scratch := e.scratch.set k data } := by
  simp only [Engine.gather, hop]

theorem byteClocked_dataIn_read (h : e.activity = .dataIn k) (hop : t.transfer.op = .read) :
    e.byteClocked t data ack = ({ e with moved := e.moved + 1 } : Engine).turnTo (e.afterDataIn t k) := by
  rw [Engine.byteClocked, h]
  exact congrArg (Engine.turnTo · _) (gather_read hop)

theorem byteClocked_dataIn_watch {mode : WatchMode} {hold : Bool} (h : e.activity = .dataIn k)
    (hop : t.transfer.op = .watch mode hold) :
    e.byteClocked t data ack =
      ({ e with moved := e.moved + 1, scratch := e.scratch.set k data } : Engine).turnTo (e.afterDataIn t k) := by
  rw [Engine.byteClocked, h]
  exact congrArg (Engine.turnTo · _) (gather_watch hop)

theorem byteClocked_dataInExtra (h : e.activity = .dataInExtra) :
    e.byteClocked t data ack = e.turnTo (.formStop .aborted) := by
  rw [Engine.byteClocked, h]

end ByteClocked

section ByteComplete
variable {s : State} {p : Port} {t : Transaction}

/-- A byte received is stored by a READ only (R46, R114). -/
theorem storeReceived_untouched {e : Engine} (data : Byte) (h : (∀ k, e.activity ≠ .dataIn k) ∨ t.transfer.op ≠ .read) :
    s.storeReceived e t data = s := by
  unfold State.storeReceived
  split
  · next k ha hop => exact (h.elim (· k ha) (· hop)).elim
  · rfl

theorem storeReceived_staging {e : Engine} {k : Nat} (data : Byte) (ha : e.activity = .dataIn k)
    (hop : t.transfer.op = .read) (ho : t.owner ≠ .replay) :
    s.storeReceived e t data = { s with staging := s.staging.write (t.transfer.position + k) data } := by
  rw [State.storeReceived, ha, hop]
  dsimp only
  split
  · next h => exact absurd h ho
  · rfl
  · rfl

theorem storeReceived_buffer {e : Engine} {k : Nat} (data : Byte) (ha : e.activity = .dataIn k)
    (hop : t.transfer.op = .read) (ho : t.owner = .replay) :
    s.storeReceived e t data =
      { s with replay := { s.replay with buffer := s.replay.buffer.write (t.transfer.position + k) data } } := by
  rw [State.storeReceived, ha, hop, ho]

theorem byteOutOfStaging_iff (ht : (s.engine p).transaction = some t) : s.byteOutOfStaging p = true ↔
    t.owner ≠ .replay ∧ ∃ a, (s.engine p).stagingPosition t = some a ∧ 8192 ≤ a := by
  simp only [State.byteOutOfStaging, ht, Bool.and_eq_true, bne_iff_ne, Option.any_eq_true, decide_eq_true_eq,
    Config.stagingBytes]

/-- A byte at a position that exists is not out of staging memory, nor one that touches none (R45). -/
theorem byteInStaging_of (ht : (s.engine p).transaction = some t)
    (h : ∀ a, (s.engine p).stagingPosition t = some a → a < 8192) : s.byteOutOfStaging p = false := by
  rw [Bool.eq_false_iff, Ne, byteOutOfStaging_iff ht]
  rintro ⟨-, a, ha, hle⟩
  exact absurd (h a ha) (Nat.not_lt.mpr hle)

theorem byteInStaging_at {a : Nat} (ht : (s.engine p).transaction = some t)
    (hp : (s.engine p).stagingPosition t = some a) (h : a < 8192) : s.byteOutOfStaging p = false :=
  byteInStaging_of ht fun _ ha => Option.some.inj (hp.symm.trans ha) ▸ h

theorem stagingPosition_dataOut {e : Engine} {k : Nat} (h : e.activity = .dataOut k) :
    e.stagingPosition t = some (e.sourcePosition t k) := by
  rw [Engine.stagingPosition, h]

theorem stagingPosition_dataIn {e : Engine} {k : Nat} (h : e.activity = .dataIn k) :
    e.stagingPosition t = if t.transfer.op = .read then some (t.transfer.position + k) else none := by
  rw [Engine.stagingPosition, h]

/-- BYTE_COMPLETE at a position that does not exist (log entry 26). -/
theorem exec_byteComplete_fault (hq : s.quiet = true) (hb : s.portState p = .busy) (hout : s.byteOutOfStaging p = true)
    (bits : List Bool) (ack : Bool) : exec (.byteComplete p bits ack) s = .fault (.stagingOutOfRange p) := by
  change execByteComplete p bits ack s = _
  rw [execByteComplete, settled_of_quiet hq, operating_of_quiet hq, decide_eq_true hb, hout]
  rfl

/-- BYTE_COMPLETE: the byte received is stored and the engine moves on. -/
theorem exec_byteComplete_of (hq : s.quiet = true) (hb : s.portState p = .busy)
    (ht : (s.engine p).transaction = some t) (hin : s.byteOutOfStaging p = false) (bits : List Bool) (ack : Bool) :
    exec (.byteComplete p bits ack) s =
      .next ((s.storeReceived (s.engine p) t (byteOfBits bits)).setEngine p
        ((s.engine p).byteClocked t (byteOfBits bits) ack)) := by
  change execByteComplete p bits ack s = _
  rw [execByteComplete, settled_of_quiet hq, hin, Bool.and_false, if_neg Bool.false_ne_true, whenOperating_of hq,
    State.onByteComplete, whenBusy_of ht hb]

/-- BYTE_COMPLETE of a byte that touches no memory: the engine alone moves on. -/
theorem exec_byteComplete_engine (hq : s.quiet = true) (hb : s.portState p = .busy)
    (ht : (s.engine p).transaction = some t) (hp : (s.engine p).stagingPosition t = none)
    (hr : (∀ k, (s.engine p).activity ≠ .dataIn k) ∨ t.transfer.op ≠ .read) (bits : List Bool) (ack : Bool) :
    exec (.byteComplete p bits ack) s = .next (s.setEngine p ((s.engine p).byteClocked t (byteOfBits bits) ack)) := by
  have hin : s.byteOutOfStaging p = false := byteInStaging_of ht fun a ha => absurd (hp.symm.trans ha) nofun
  rw [exec_byteComplete_of hq hb ht hin, storeReceived_untouched _ hr]

end ByteComplete

/-- Settles O46: the byte by what the engine is doing, then what follows it and where it is stored. -/
theorem byteClocked : Obligations.ByteClocked := by
  refine ⟨fun e t k => ⟨segmented_iff t, sourcePosition_eq e t k, dataOutLength_whole, fun _ => dataOutLength_segment⟩, ?_⟩
  intro s p bits ack t hq hb ht e data moved orAbort counted
  refine ⟨fun read again ha => ?address, fun k ha => ?offset, fun k ha ho => ?dataOut, fun k ha => ?dataIn,
    fun ha => ?dataInExtra⟩
  case address =>
    rw [exec_byteComplete_engine hq hb ht (by rw [Engine.stagingPosition, ha]) (.inl (by rw [ha]; nofun)),
      byteClocked_address ha]
    rfl
  case offset =>
    rw [exec_byteComplete_engine hq hb ht (by rw [Engine.stagingPosition, ha]) (.inl (by rw [ha]; nofun)),
      byteClocked_offset ha, afterOffset_eq]
    rfl
  case dataOut =>
    have hpos : (s.engine p).stagingPosition t = some (e.sourcePosition t k) := stagingPosition_dataOut ha
    refine ⟨fun hout => ?_, fun hlt => ?_⟩
    · exact exec_byteComplete_fault hq hb ((byteOutOfStaging_iff ht).mpr ⟨ho, _, hpos, hout⟩) bits ack
    · rw [exec_byteComplete_of hq hb ht (byteInStaging_at ht hpos hlt),
        storeReceived_untouched _ (.inl (by rw [ha]; nofun))]
      refine ⟨fun hack => ?_, fun hack => ?_⟩
      · rw [hack, byteClocked_dataOut_ack ha]
        rfl
      · rw [hack, byteClocked_dataOut_nak ha]
        rfl
  case dataIn =>
    intro next
    have hpos := stagingPosition_dataIn (t := t) ha
    refine ⟨fun hop ho => ⟨fun hout => ?_, fun hlt => ?_⟩, fun hop ho => ?_, fun mode hold hop => ?_⟩
    · rw [if_pos hop] at hpos
      exact exec_byteComplete_fault hq hb ((byteOutOfStaging_iff ht).mpr ⟨ho, _, hpos, hout⟩) bits ack
    · rw [if_pos hop] at hpos
      rw [exec_byteComplete_of hq hb ht (byteInStaging_at ht hpos hlt), storeReceived_staging _ ha hop ho,
        byteClocked_dataIn_read ha hop]
      rfl
    · have hin : s.byteOutOfStaging p = false :=
        Bool.eq_false_iff.mpr fun h => ((byteOutOfStaging_iff ht).mp h).1 ho
      rw [exec_byteComplete_of hq hb ht hin, storeReceived_buffer _ ha hop ho, byteClocked_dataIn_read ha hop]
      rfl
    · have hread : t.transfer.op ≠ .read := by rw [hop]; nofun
      rw [exec_byteComplete_engine hq hb ht (hpos.trans (if_neg hread)) (.inr hread), byteClocked_dataIn_watch ha hop]
      rfl
  case dataInExtra =>
    rw [exec_byteComplete_engine hq hb ht (by rw [Engine.stagingPosition, ha]) (.inl (by rw [ha]; nofun)),
      byteClocked_dataInExtra ha]
    rfl

/-! ### BUS_CONDITION_FORMED (R76, R78, R82 to R89, R93) -/

section Condition
variable {s : State} {p : Port} {t : Transaction}

theorem watchOutOfStaging_iff (ht : (s.engine p).transaction = some t) : s.watchOutOfStaging p = true ↔
    (s.engine p).activity = .formStop .final
    ∧ (∃ mode hold, t.transfer.op = .watch mode hold) ∧ 8192 < t.transfer.position + 3 * t.transfer.length := by
  rw [State.watchOutOfStaging, ht]
  cases hop : t.transfer.op with
  | watch mode hold => simp [hop, Config.stagingBytes]
  | read => simp [hop]
  | write => simp [hop]

/-- BUS_CONDITION_FORMED at the end of a WATCH whose block leaves staging memory (log entry 26). -/
theorem exec_busConditionFormed_fault (hq : s.quiet = true) (hb : s.portState p = .busy)
    (hout : s.watchOutOfStaging p = true) (lines : Lines) :
    exec (.busConditionFormed p lines) s = .fault (.stagingOutOfRange p) := by
  change execBusConditionFormed p lines s = _
  rw [execBusConditionFormed, settled_of_quiet hq, operating_of_quiet hq, decide_eq_true hb, hout]
  rfl

/-- BUS_CONDITION_FORMED: the procedure goes on, or the transaction ends. -/
theorem exec_busConditionFormed_of (hq : s.quiet = true) (hb : s.portState p = .busy)
    (ht : (s.engine p).transaction = some t) (hin : ¬s.watchOutOfStaging p = true) {lines : Lines} {pr : Progress}
    (hpr : (s.engine p).conditionFormed t lines = pr) :
    exec (.busConditionFormed p lines) s = .next (s.proceed p t false pr) := by
  change execBusConditionFormed p lines s = _
  rw [execBusConditionFormed, settled_of_quiet hq, Bool.eq_false_iff.mpr hin, Bool.and_false,
    if_neg Bool.false_ne_true, whenOperating_of hq, State.onBusConditionFormed, whenBusy_of ht hb, hpr]

end Condition

section ConditionFormed
variable {e : Engine} {t : Transaction} {lines : Lines}

theorem conditionFormed_formStart (h : e.activity = .formStart) : e.conditionFormed t lines =
    .goesOn (e.unlessAborted (.address (decide (t.transfer.op ≠ .write ∧ t.defn.offsetWidth = 0)) false)) := by
  rw [Engine.conditionFormed, h, opensWithRead_eq]

theorem conditionFormed_beforeSegment (h : e.activity = .beforeSegment) :
    e.conditionFormed t lines = .goesOn (e.unlessAborted (.address false false)) := by
  rw [Engine.conditionFormed, h]

theorem conditionFormed_formRestart (h : e.activity = .formRestart) :
    e.conditionFormed t lines = .goesOn (e.unlessAborted (.address true true)) := by
  rw [Engine.conditionFormed, h]

theorem conditionFormed_poll (h : e.activity = .betweenPolls ∨ e.activity = .pollStart) :
    e.conditionFormed t lines = .goesOn (e.turnTo .poll) := by
  rcases h with h | h
  · rw [Engine.conditionFormed, h]
  · rw [Engine.conditionFormed, h]

theorem conditionFormed_formStop {c : Closing} (h : e.activity = .formStop c) :
    e.conditionFormed t lines = e.stopFormed t c := by
  rw [Engine.conditionFormed, h]

theorem conditionFormed_stretchStop (h : e.activity = .stretchStop) : e.conditionFormed t lines =
    .ends e .stretchTimeout (if lines.bothHigh then .idle else .recovering) := by
  rw [Engine.conditionFormed, h]

/-- After an abort request every STOP but that of a transfer run to its end ends the transaction with ABORTED (R93). -/
theorem stopFormed_abort {c : Closing} (hc : c ≠ .final) (h : e.abortRequested = true) :
    e.stopFormed t c = .ends e .aborted .idle := by
  cases c with
  | final => exact absurd rfl hc
  | segment => exact if_pos h
  | nak r => exact if_pos h
  | aborted => rfl

theorem stopFormed_segment (h : e.abortRequested = false) : e.stopFormed t .segment = .goesOn (e.beginPolling t) :=
  if_neg (Bool.eq_false_iff.mp h)

/-- R89: the retry gap while attempts remain, else the result of the NAK. -/
theorem stopFormed_nak (r : Result) (h : e.abortRequested = false) : e.stopFormed t (.nak r) =
    if e.attempts ≤ t.defn.retries then .goesOn { e.turnTo .retryGap with waitTimer := some 2 } else .ends e r .idle :=
  if_neg (Bool.eq_false_iff.mp h)

end ConditionFormed

/-- Settles O48: the condition by what it is, and after an abort request the end of the transaction. -/
theorem conditionFormed : Obligations.ConditionFormed := by
  intro s p lines t hq hb ht e turned orAbort leaves
  have formed {pr : Progress} (hne : e.activity ≠ .formStop .final) (hpr : e.conditionFormed t lines = pr) :
      exec (.busConditionFormed p lines) s = .next (s.proceed p t false pr) :=
    exec_busConditionFormed_of hq hb ht (fun hout => hne ((watchOutOfStaging_iff ht).mp hout).1) hpr
  have stopped {c : Closing} {pr : Progress} (ha : e.activity = .formStop c) (hc : c ≠ .final)
      (hpr : e.stopFormed t c = pr) : exec (.busConditionFormed p lines) s = .next (s.proceed p t false pr) :=
    formed (by rw [ha]; exact fun h => hc (Activity.formStop.inj h)) ((conditionFormed_formStop ha).trans hpr)
  refine ⟨fun ha => formed (by rw [ha]; nofun) (conditionFormed_formStart ha),
    fun ha => formed (by rw [ha]; nofun) (conditionFormed_beforeSegment ha),
    fun ha => formed (by rw [ha]; nofun) (conditionFormed_formRestart ha),
    fun ha => formed (by rcases ha with ha | ha <;> rw [ha] <;> nofun) (conditionFormed_poll ha),
    fun ha => ⟨fun hl => ?leaves, fun hl => ?final⟩,
    fun ha => ⟨fun hab => stopped ha nofun (stopFormed_segment hab),
      fun hab => stopped ha nofun (stopFormed_abort (by nofun) hab)⟩,
    fun r ha => ⟨fun hab hle => ?retry, fun hab hlt => ?noRetry,
      fun hab => stopped ha nofun (stopFormed_abort (by nofun) hab)⟩,
    fun ha => stopped ha nofun rfl, fun ha => formed (by rw [ha]; nofun) (conditionFormed_stretchStop ha)⟩
  case leaves => exact exec_busConditionFormed_fault hq hb ((watchOutOfStaging_iff ht).mpr ⟨ha, hl⟩) lines
  case final =>
    exact exec_busConditionFormed_of hq hb ht (fun hout => hl ((watchOutOfStaging_iff ht).mp hout).2)
      (conditionFormed_formStop ha)
  case retry => exact stopped ha nofun ((stopFormed_nak r hab).trans (if_pos hle))
  case noRetry => exact stopped ha nofun ((stopFormed_nak r hab).trans (if_neg (Nat.not_le.mpr hlt)))

end Sys2Proof.Machine

/-! SUPPORT. What an engine puts on its bus (R47, R76, R77, R82, R102): the byte sent, the acknowledge bit driven, and
the row of levels that a step signals. -/

namespace Sys2Proof.Machine

/-! ### The bits of a byte (R76) -/

/-- The bits of a byte, the most significant first, are those of a character of the control link in reverse. -/
theorem byteOfBits_bitsOf (b : Byte) : byteOfBits (bitsOf b) = b := by
  have hrev : (dataBitsOf b).reverse = bitsOf b := rfl
  rw [← hrev]
  exact characterOfBits_dataBitsOf b

/-! ### The byte sent and the acknowledge bit driven (R77, R82) -/

/-- R77: the offset sent is the segment's first in a memory write, else the target offset. -/
theorem offsetSent_eq {e : Engine} {t : Transaction} {sent : Nat}
    (hseg : t.segmented = true → ∃ sg, e.segment = some sg ∧ sg.first = sent)
    (hwhole : t.segmented = false → sent = t.transfer.offset) : e.offsetSent t = sent := by
  unfold Engine.offsetSent
  cases ht : t.segmented with
  | false => rw [hwhole ht]; split <;> rfl
  | true =>
    obtain ⟨sg, hs, hf⟩ := hseg ht
    rw [hs]
    exact hf

section Sent
variable {s : State} {p : Port} {t : Transaction} {k : Nat}

theorem byteSent_address {read again : Bool} (ht : (s.engine p).transaction = some t)
    (ha : (s.engine p).activity = .address read again) : s.byteSent p = some (addressByte t.defn.address read) := by
  simp only [State.byteSent, ht, ha]

theorem byteSent_poll (ht : (s.engine p).transaction = some t) (ha : (s.engine p).activity = .poll) :
    s.byteSent p = some (addressByte t.defn.address false) := by
  simp only [State.byteSent, ht, ha]

theorem byteSent_offset (ht : (s.engine p).transaction = some t) (ha : (s.engine p).activity = .offset k) :
    s.byteSent p = some (offsetByte t.defn.offsetWidth ((s.engine p).offsetSent t) k) := by
  simp only [State.byteSent, ht, ha]

theorem byteSent_dataOut (ht : (s.engine p).transaction = some t) (ha : (s.engine p).activity = .dataOut k) :
    s.byteSent p = some (s.staging.read ((s.engine p).sourcePosition t k)) := by
  simp only [State.byteSent, ht, ha]

/-- Where the engine sends no byte. -/
theorem byteSent_eq_none (s : State) (p : Port)
    (h : ∀ k r a, (s.engine p).activity ∉ [Activity.address r a, .offset k, .dataOut k, .poll]) : s.byteSent p = none := by
  unfold State.byteSent
  dsimp only
  split
  · rfl
  · split <;> simp_all

/-- Where the engine sends a byte. -/
theorem sends_of_byteSent {b : Byte} (h : s.byteSent p = some b) :
    ∃ k r a, (s.engine p).activity ∈ [Activity.address r a, .offset k, .dataOut k, .poll] := by
  by_contra hn
  simp only [not_exists] at hn
  exact absurd ((byteSent_eq_none s p hn).symm.trans h) nofun

theorem ackDriven_dataIn (ht : (s.engine p).transaction = some t) (ha : (s.engine p).activity = .dataIn k) :
    s.ackDriven p = some (decide (k + 1 < t.transfer.length)) := by
  simp only [State.ackDriven, ht, ha]

theorem ackDriven_dataInExtra (ht : (s.engine p).transaction = some t) (ha : (s.engine p).activity = .dataInExtra) :
    s.ackDriven p = some false := by
  simp only [State.ackDriven, ht, ha]

/-- Where the engine drives an acknowledge bit it receives a byte. -/
theorem receives_of_ackDriven {ack : Bool} (h : s.ackDriven p = some ack) :
    (∃ k, (s.engine p).activity = .dataIn k) ∨ (s.engine p).activity = .dataInExtra := by
  unfold State.ackDriven at h
  dsimp only at h
  split at h
  · cases h
  · split at h
    · next k ha => exact .inl ⟨k, ha⟩
    · next ha => exact .inr ha
    all_goals cases h

/-! ### The levels signalled (R76, R102) -/

theorem signal_busy (hb : s.portState p = .busy) : s.signal p =
    (s.engine p).activity.signal ((s.byteSent p).getD 0) ((s.ackDriven p).getD false) := by
  rw [State.portState] at hb
  simp only [State.signal, hb]

theorem signal_sent {b : Byte} (hb : s.portState p = .busy) (h : s.byteSent p = some b) :
    s.signal p = sentByteSignal b ++ (if (s.engine p).activity = .poll then stopSignal else []) := by
  obtain ⟨k, r, a, hmem⟩ := sends_of_byteSent h
  rw [signal_busy hb, h]
  simp only [List.mem_cons, List.not_mem_nil, or_false] at hmem
  rcases hmem with ha | ha | ha | ha
  · rw [ha, if_neg nofun, List.append_nil]; rfl
  · rw [ha, if_neg nofun, List.append_nil]; rfl
  · rw [ha, if_neg nofun, List.append_nil]; rfl
  · rw [ha, if_pos rfl]; rfl

theorem signal_received {ack : Bool} (hb : s.portState p = .busy) (h : s.ackDriven p = some ack) :
    s.signal p = receivedByteSignal ack := by
  rw [signal_busy hb, h]
  rcases receives_of_ackDriven h with ⟨k, ha⟩ | ha
  · rw [ha]; rfl
  · rw [ha]; rfl

theorem signal_recovering {r : Recovery} (hp : s.portState p = .recovering) (hr : (s.engine p).recovery = some r) :
    s.signal p = r.step.signal := by
  rw [State.portState] at hp
  simp only [State.signal, hp, hr]
  rfl

theorem clockRate_busy (hb : s.portState p = .busy) (ht : (s.engine p).transaction = some t) :
    s.clockRate p = some t.defn.speed := by
  rw [State.portState] at hb
  simp only [State.clockRate, hb, ht]
  rfl

theorem clockRate_recovering (hp : s.portState p = .recovering) : s.clockRate p = some .khz100 := by
  rw [State.portState] at hp
  simp only [State.clockRate, hp]

end Sent

/-- Settles O47: the byte sent and the bit driven by what the engine is doing, then the row of levels of each. -/
theorem bytesOnTheBus : Obligations.BytesOnTheBus := by
  unfold Obligations.BytesOnTheBus
  intro bit stop
  refine ⟨fun s p t ht => ?bus, byteOfBits_bitsOf, fun s p r hp hr => ?recovery⟩
  case bus =>
    intro e
    refine ⟨fun read again ha => byteSent_address ht ha, fun ha => byteSent_poll ht ha,
      fun k sent ha hseg hwhole => ?offset, fun k ha => ?dataOut, fun k ha => ackDriven_dataIn ht ha,
      fun ha => ackDriven_dataInExtra ht ha, fun hb => ⟨fun ha => ?start, fun ha => ?restart, fun ha => ?stop,
        fun b h => signal_sent hb h, fun ack h => signal_received hb h, clockRate_busy hb ht⟩⟩
    case offset =>
      rw [byteSent_offset ht ha, offsetSent_eq hseg hwhole]
      refine ⟨fun hw => ?_, fun hw hk => ?_, fun hw hk => ?_⟩
      · exact congrArg some (if_neg fun h => absurd (hw.symm.trans h.1) (by decide))
      · exact congrArg some (if_pos ⟨hw, hk⟩)
      · exact congrArg some (if_neg fun h => absurd (hk.symm.trans h.2) (by decide))
    case dataOut =>
      rw [byteSent_dataOut ht ha, sourcePosition_eq, if_congr (segmented_iff t) rfl rfl]
    case start =>
      rw [signal_busy hb]
      rcases ha with ha | ha | ha | ha
      · rw [ha]; rfl
      · rw [ha]; rfl
      · rw [ha]; rfl
      · rw [ha]; rfl
    case restart => rw [signal_busy hb, ha]; rfl
    case stop =>
      rw [signal_busy hb]
      rcases ha with ⟨c, ha⟩ | ha
      · rw [ha]; rfl
      · rw [ha]; rfl
  case recovery =>
    rw [signal_recovering hp hr]
    exact ⟨fun hs => by rw [hs]; rfl, fun hs => by rw [hs]; rfl, clockRate_recovering hp⟩

end Sys2Proof.Machine

/-! SUPPORT. What ends a poll, a stretch, a retry gap or a transaction on the bus from outside its bytes and conditions: the
answer and the cycle limit (R87), the lines (R78, R79), the gap (R89) and the abort request (R92, R93). -/

namespace Sys2Proof.Machine

/-! ### Whether the next START is begun (R93, log entry 17) -/

theorem busClosed_iff (a : Activity) :
    a.busClosed = true ↔ a = .retryGap ∨ a = .beforeSegment ∨ a = .betweenPolls := by
  cases a <;> simp [Activity.busClosed]

/-- An engine that stands before no START is found as it is. -/
theorem found_elsewhere {e : Engine} (hs : e.activity ≠ .beforeSegment) (hp : e.activity ≠ .betweenPolls) (begun : Bool) :
    e.found begun = e := by
  cases begun
  · rfl
  · change e.startBegun = e
    rw [Engine.startBegun, if_neg hs, if_neg hp]

theorem found_beforeSegment {e : Engine} (h : e.activity = .beforeSegment) :
    e.found true = { e with activity := .formStart } := by
  change e.startBegun = _
  rw [Engine.startBegun, if_pos h]

theorem found_betweenPolls {e : Engine} (h : e.activity = .betweenPolls) :
    e.found true = { e with activity := .pollStart } := by
  change e.startBegun = _
  rw [Engine.startBegun, if_neg (by rw [h]; nofun), if_pos h]

/-! ### The answer of a poll and the cycle limit (R87) -/

section Polls
variable {s : State} {p : Port} {t : Transaction} {e : Engine}

theorem confirmSegment_of {sg : Segment} (h : e.segment = some sg) :
    e.confirmSegment = { e with confirmed := e.confirmed + sg.length, cycleTimer := none, cycleExpired := false } := by
  rw [Engine.confirmSegment, h]
  rfl

/-- R85, R87: an ACK that leaves bytes to be written leads to the segment after the one confirmed. -/
theorem pollAnswered_next {sg : Segment} (h : e.segment = some sg) (hlt : e.confirmed + sg.length < t.transfer.length)
    (hab : e.abortRequested = false) :
    e.pollAnswered t true = .goesOn
      (({ e with
          confirmed := e.confirmed + sg.length, cycleTimer := none, cycleExpired := false
          segment := some (t.segmentAt (e.confirmed + sg.length) (sg.place + 1)) } : Engine).turnTo .beforeSegment) := by
  rw [Engine.pollAnswered, if_pos rfl, confirmSegment_of h]
  dsimp only
  rw [if_neg (Nat.not_le.mpr hlt), hab, if_neg Bool.false_ne_true, Engine.nextSegment, h]
  rfl

theorem pollAnswered_done {sg : Segment} (h : e.segment = some sg) (hle : t.transfer.length ≤ e.confirmed + sg.length) :
    e.pollAnswered t true = .ends
      { e with confirmed := e.confirmed + sg.length, cycleTimer := none, cycleExpired := false } .done .idle := by
  rw [Engine.pollAnswered, if_pos rfl, confirmSegment_of h]
  exact if_pos hle

theorem pollAnswered_aborted {sg : Segment} (h : e.segment = some sg)
    (hlt : e.confirmed + sg.length < t.transfer.length) (hab : e.abortRequested = true) :
    e.pollAnswered t true = .ends
      { e with confirmed := e.confirmed + sg.length, cycleTimer := none, cycleExpired := false } .aborted .idle := by
  rw [Engine.pollAnswered, if_pos rfl, confirmSegment_of h]
  exact (if_neg (Nat.not_le.mpr hlt)).trans (if_pos hab)

/-- R87, R93: after a NAK the write goes on to the next poll unless it is aborted or its limit has run out. -/
theorem pollAnswered_nak : e.pollAnswered t false =
    if e.abortRequested then .ends e .aborted .idle
    else if e.cycleExpired then .ends e .cycleTimeout .idle
    else .goesOn (e.turnTo .betweenPolls) := rfl

theorem exec_cyclePollAnswer_of {ack : Bool} {pr : Progress} (hq : s.quiet = true) (hb : s.portState p = .busy)
    (ht : (s.engine p).transaction = some t) (ha : (s.engine p).activity = .poll)
    (hpr : (s.engine p).pollAnswered t ack = pr) :
    exec (.cyclePollAnswer p ack) s = .next (s.proceed p t false pr) := by
  change whenOperating s (fun s => s.onCyclePollAnswer p ack) = _
  rw [whenOperating_of hq, State.onCyclePollAnswer, whenBusy_of ht hb, if_pos ha, hpr]

theorem cycleLimitOut_between (h : e.activity = .betweenPolls) : e.cycleLimitOut = .ends e .cycleTimeout .idle := if_pos h

theorem cycleLimitOut_begun (h : e.activity ≠ .betweenPolls) :
    e.cycleLimitOut = .goesOn { e with cycleTimer := none, cycleExpired := true } := if_neg h

theorem exec_cycleLimitExpiry_of {begun : Bool} {pr : Progress} (ho : s.operating = true) (hb : s.portState p = .busy)
    (ht : (s.engine p).transaction = some t) (hph : (s.engine p).activity.phase = .cyclePoll)
    (htm : (s.engine p).cycleTimer = some 0) (hpr : ((s.engine p).found begun).cycleLimitOut = pr) :
    exec (.cycleLimitExpiry p begun) s = .next (s.proceed p t true pr) := by
  have hdue : (s.engine p).cycleDue = true := by rw [Engine.cycleDue, hph, htm]; rfl
  refine (whenDue_of ho _).trans (congrArg Host.Outcome.next ?_)
  change s.onCycleLimitExpiry p begun = _
  rw [State.onCycleLimitExpiry, whenBusy_of ht hb, if_pos hdue, hpr]

end Polls

/-- Settles O49: the answer by its acknowledge bit and what remains, the cycle limit by whether a poll has been begun. -/
theorem pollsSettled : Obligations.PollsSettled := by
  intro s p t hb ht e turned
  refine ⟨fun hq ha => ?answers, fun ho htm begun => ?limit⟩
  case answers =>
    have answered {ack : Bool} {pr : Progress} (hpr : e.pollAnswered t ack = pr) :
        exec (.cyclePollAnswer p ack) s = .next (s.proceed p t false pr) := exec_cyclePollAnswer_of hq hb ht ha hpr
    refine ⟨fun sg hsg => ⟨fun hle => answered (pollAnswered_done hsg hle),
        fun hlt hab => answered (pollAnswered_aborted hsg hlt hab),
        fun hlt hab => answered (pollAnswered_next hsg hlt hab)⟩,
      fun hab => answered (pollAnswered_nak.trans (if_pos hab)), fun hab hex => ?_, fun hab hex => ?_⟩
    · exact answered (pollAnswered_nak.trans ((if_neg (Bool.eq_false_iff.mp hab)).trans (if_pos hex)))
    · exact answered (pollAnswered_nak.trans
        ((if_neg (Bool.eq_false_iff.mp hab)).trans (if_neg (Bool.eq_false_iff.mp hex))))
  case limit =>
    have expires {pr : Progress} (hph : e.activity.phase = .cyclePoll) (hpr : (e.found begun).cycleLimitOut = pr) :
        exec (.cycleLimitExpiry p begun) s = .next (s.proceed p t true pr) :=
      exec_cycleLimitExpiry_of ho hb ht hph htm hpr
    refine ⟨fun ha hbegun => ?_, fun ha hbegun => ?_, fun ha => ?_⟩
    · subst hbegun
      exact expires (by rw [ha]; rfl) (cycleLimitOut_between ha)
    · subst hbegun
      exact expires (by rw [ha]; rfl)
        ((congrArg Engine.cycleLimitOut (found_betweenPolls ha)).trans (cycleLimitOut_begun nofun))
    · have hnot : e.activity ≠ .betweenPolls := by rcases ha with ha | ha <;> rw [ha] <;> nofun
      have hseg : e.activity ≠ .beforeSegment := by rcases ha with ha | ha <;> rw [ha] <;> nofun
      exact expires (by rcases ha with ha | ha <;> rw [ha] <;> rfl)
        ((congrArg Engine.cycleLimitOut (found_elsewhere hseg hnot begun)).trans (cycleLimitOut_begun hnot))

/-! ### Conflict, stretches and the retry gap (R78, R79, R89) -/

theorem clocks_iff (a : Activity) :
    a.clocks = true ↔ a ∉ [Activity.none, .retryGap, .stretchClockWait, .stretchStop] := by
  cases a <;> simp [Activity.clocks]

section Lines
variable {s : State} {p : Port} {t : Transaction}

theorem conflictCanArise_iff (s : State) (p : Port) : s.conflictCanArise p = true ↔
    (s.engine p).activity.checksConflict = true ∧ (s.byteSent p ≠ some 0 ∨ (s.engine p).activity = .poll) := by
  rw [State.conflictCanArise, Bool.and_eq_true, Bool.or_eq_true, bne_iff_ne, beq_iff_eq]

theorem exec_busConflict_of (hq : s.quiet = true) (hb : s.portState p = .busy)
    (ht : (s.engine p).transaction = some t) : exec (.busConflict p) s =
      .next (if s.conflictCanArise p then s.endTransaction p (s.engine p) t .busConflict .recovering false else s) := by
  change whenOperating s (fun s => s.onBusConflict p) = _
  rw [whenOperating_of hq, State.onBusConflict, whenBusy_of ht hb]

theorem exec_stretchEnd_of (hq : s.quiet = true) (hb : s.portState p = .busy)
    (ht : (s.engine p).transaction = some t) (hc : (s.engine p).activity.clocks = true) :
    exec (.stretchEnd p) s = .next (s.setEngine p { s.engine p with stretchTimer := none }) := by
  change whenOperating s (fun s => s.onStretchEnd p) = _
  rw [whenOperating_of hq, State.onStretchEnd, whenBusy_of ht hb, if_pos hc]

theorem exec_clockWaitEnd_busy (hq : s.quiet = true) (hb : s.portState p = .busy)
    (ht : (s.engine p).transaction = some t) (ha : (s.engine p).activity = .stretchClockWait) (dataHigh : Bool) :
    exec (.clockWaitEnd p dataHigh) s = .next (s.setEngine p ((s.engine p).turnTo .stretchStop)) := by
  change whenOperating s (fun s => s.onClockWaitEnd p dataHigh) = _
  rw [whenOperating_of hq, State.onClockWaitEnd, if_neg (by rw [hb]; nofun), whenBusy_of ht hb, if_pos ha]

theorem exec_stretchTimeout_of (ho : s.operating = true) (hb : s.portState p = .busy)
    (ht : (s.engine p).transaction = some t) (hc : (s.engine p).activity.clocks = true)
    (htm : (s.engine p).stretchTimer = some 0) :
    exec (.stretchTimeout p) s = .next (s.setEngine p
      { (s.engine p).turnTo .stretchClockWait with waitTimer := some 1, cycleTimer := none, cycleExpired := false }) := by
  have hdue : (s.engine p).stretchDue = true := by rw [Engine.stretchDue, hc, htm]; rfl
  refine (whenDue_of ho _).trans (congrArg Host.Outcome.next ?_)
  change s.onStretchTimeout p = _
  rw [State.onStretchTimeout, whenBusy_of ht hb, if_pos hdue]
  rfl

theorem exec_stopClockWaitExpiry_of (ho : s.operating = true) (hb : s.portState p = .busy)
    (ht : (s.engine p).transaction = some t) (ha : (s.engine p).activity = .stretchClockWait)
    (htm : (s.engine p).waitTimer = some 0) : exec (.stopClockWaitExpiry p) s =
      .next (s.endTransaction p (s.engine p) t .stretchTimeout .recovering true) := by
  have hdue : (s.engine p).clockWaitDue = true := by rw [Engine.clockWaitDue, ha, htm]; rfl
  refine (whenDue_of ho _).trans (congrArg Host.Outcome.next ?_)
  change s.onStopClockWaitExpiry p = _
  rw [State.onStopClockWaitExpiry, whenBusy_of ht hb, if_pos hdue]

theorem exec_retryGapEnd_of (ho : s.operating = true) (hb : s.portState p = .busy)
    (ht : (s.engine p).transaction = some t) (ha : (s.engine p).activity = .retryGap)
    (htm : (s.engine p).waitTimer = some 0) :
    exec (.retryGapEnd p) s = .next (s.setEngine p (s.engine p).beginAttempt) := by
  have hdue : (s.engine p).retryDue = true := by rw [Engine.retryDue, ha, htm]; rfl
  refine (whenDue_of ho _).trans (congrArg Host.Outcome.next ?_)
  change s.onRetryGapEnd p = _
  rw [State.onRetryGapEnd, whenBusy_of ht hb, if_pos hdue]

end Lines

/-- Settles O50: a conflict by the byte or condition it is met in, then each stretch and gap by its step. -/
theorem linesAndGaps : Obligations.LinesAndGaps := by
  refine ⟨clocks_iff, fun s p t hb ht => ?_⟩
  intro e
  refine ⟨fun hq => ⟨fun ha => ?conflict, fun ha hz => ?zero, fun hc => exec_stretchEnd_of hq hb ht hc,
      fun ha dataHigh => exec_clockWaitEnd_busy hq hb ht ha dataHigh⟩,
    fun ho => ⟨fun hc htm => exec_stretchTimeout_of ho hb ht hc htm,
      fun ha htm => exec_stopClockWaitExpiry_of ho hb ht ha htm, fun ha htm => exec_retryGapEnd_of ho hb ht ha htm⟩⟩
  case conflict =>
    have silent {a : Activity} (ha : e.activity = a) (hc : a.checksConflict = true)
        (hn : ∀ k r b, a ∉ [Activity.address r b, .offset k, .dataOut k, .poll]) : s.conflictCanArise p = true := by
      refine (conflictCanArise_iff s p).mpr ⟨ha.symm ▸ hc, .inl ?_⟩
      rw [byteSent_eq_none s p (ha.symm ▸ hn)]
      nofun
    have sending (hc : e.activity.checksConflict = true) (hz : s.byteSent p ≠ some 0) : s.conflictCanArise p = true :=
      (conflictCanArise_iff s p).mpr ⟨hc, .inl hz⟩
    rw [exec_busConflict_of hq hb ht, if_pos]
    rcases ha with ha | ha | ha | ⟨⟨r, a, ha⟩, hz⟩ | ⟨⟨k, ha⟩, hz⟩ | ⟨⟨k, ha⟩, hz⟩ | ⟨c, ha⟩ | ha | ha | ha
    · exact silent ha rfl (by simp)
    · exact silent ha rfl (by simp)
    · exact silent ha rfl (by simp)
    · exact sending (by rw [ha]; rfl) hz
    · exact sending (by rw [ha]; rfl) hz
    · exact sending (by rw [ha]; rfl) hz
    · exact silent ha rfl (by simp)
    · exact silent ha rfl (by simp)
    · exact silent ha rfl (by simp)
    · exact (conflictCanArise_iff s p).mpr ⟨by rw [ha]; rfl, .inr ha⟩
  case zero =>
    have hpoll : e.activity ≠ .poll := by
      rcases ha with ⟨r, a, ha⟩ | ⟨k, ha⟩ | ⟨k, ha⟩ <;> rw [ha] <;> nofun
    rw [exec_busConflict_of hq hb ht, if_neg]
    exact fun h => ((conflictCanArise_iff s p).mp h).2.elim (· hz) hpoll

/-! ### An abort request (R81, R92, R93) -/

section Abort
variable {s : State} {p : Port} {t : Transaction} {owner : Owner} {begun : Bool}

theorem exec_abortRequest_of {rest : List Owner} (hq : s.quiet = true)
    (hr : (s.engine p).abortRequests = owner :: rest) (begun : Bool) :
    exec (.abortRequest p begun) s =
      .next ((s.setEngine p { s.engine p with abortRequests := rest }).takeAbortRequest p owner begun) := by
  change whenOperating s (fun s => s.onAbortRequest p begun) = _
  rw [whenOperating_of hq, State.onAbortRequest, hr]

/-- R92: a request that does not reach a transaction has no effect. -/
theorem takeAbortRequest_passes (h : (s.engine p).transaction = none
    ∨ (∃ t, (s.engine p).transaction = some t ∧ t.owner ≠ owner) ∨ (s.engine p).abortRequested = true) :
    s.takeAbortRequest p owner begun = s := by
  unfold State.takeAbortRequest
  split
  · rfl
  · next t ht =>
    refine if_neg fun ⟨howner, hab⟩ => ?_
    rcases h with h | ⟨u, hu, hne⟩ | h
    · exact absurd (ht.symm.trans h) nofun
    · exact hne (Option.some.inj (ht.symm.trans hu) ▸ howner)
    · exact absurd (hab.symm.trans h) nofun

theorem takeAbortRequest_busy (ht : (s.engine p).transaction = some t) (ho : t.owner = owner)
    (hab : (s.engine p).abortRequested = false) (hb : (s.engine p).portState = .busy) {pr : Progress}
    (hpr : ((s.engine p).found begun).takeAbort = pr) :
    s.takeAbortRequest p owner begun = s.proceed p t false pr := by
  simp only [State.takeAbortRequest, ht, ho, hab, hb, hpr, and_self, if_true]

theorem takeAbortRequest_recovering (ht : (s.engine p).transaction = some t) (ho : t.owner = owner)
    (hab : (s.engine p).abortRequested = false) (hp : (s.engine p).portState = .recovering) :
    s.takeAbortRequest p owner begun = s.setEngine p { s.engine p with abortRequested := true } := by
  simp only [State.takeAbortRequest, ht, ho, hab, hp, and_self, if_true]

theorem takeAbort_closed {e : Engine} (h : e.activity.busClosed = true) :
    e.takeAbort = .ends { e with abortRequested := true } .aborted .idle := if_pos h

theorem takeAbort_open {e : Engine} (h : ¬e.activity.busClosed = true) :
    e.takeAbort = .goesOn { e with abortRequested := true } := if_neg h

end Abort

/-- Settles O51: a request that passes, then one that reaches the transaction, by what the engine is doing. -/
theorem abortRequestTaken : Obligations.AbortRequestTaken := by
  intro s u p owner rest begun hq hr hu a
  have hexec : exec (.abortRequest p begun) s = .next (u.takeAbortRequest p owner begun) :=
    hu ▸ exec_abortRequest_of hq hr begun
  have hengine : u.engine p = { s.engine p with abortRequests := rest } := by rw [hu, setEngine_engine_same]
  rw [hexec]
  refine ⟨fun h => ?passes, fun t ht howner hab => ⟨fun hb => ?busy, fun hp => ?recovering⟩⟩
  case passes =>
    exact congrArg _ (takeAbortRequest_passes (by rw [hengine]; exact h))
  case recovering =>
    exact congrArg _ (takeAbortRequest_recovering (t := t) (by rw [hengine]; exact ht) howner
      (by rw [hengine]; exact hab) (by rw [hengine]; exact hp))
  case busy =>
    have ha : (u.engine p).activity = a := by rw [hengine]
    have taken {pr : Progress} (hpr : ((u.engine p).found begun).takeAbort = pr) :
        Host.Outcome.next (u.takeAbortRequest p owner begun) =
          (Host.Outcome.next (u.proceed p t false pr) : StepOutcome) :=
      congrArg _ (takeAbortRequest_busy (by rw [hengine]; exact ht) howner (by rw [hengine]; exact hab)
        (by rw [hengine]; exact hb) hpr)
    have ends (hf : (u.engine p).found begun = u.engine p) (hc : a.busClosed = true) :
        (Host.Outcome.next (u.takeAbortRequest p owner begun) : StepOutcome) =
          .next (u.endTransaction p { u.engine p with abortRequested := true } t .aborted .idle false) :=
      taken ((congrArg Engine.takeAbort hf).trans (takeAbort_closed (ha.symm ▸ hc)))
    have goesOn {e : Engine} (hf : (u.engine p).found begun = e) (hc : ¬e.activity.busClosed = true) :
        (Host.Outcome.next (u.takeAbortRequest p owner begun) : StepOutcome) =
          .next (u.setEngine p { e with abortRequested := true }) :=
      taken ((congrArg Engine.takeAbort hf).trans (takeAbort_open hc))
    have elsewhere (hs : a ≠ .beforeSegment) (hp : a ≠ .betweenPolls) : (u.engine p).found begun = u.engine p :=
      found_elsewhere (ha.symm ▸ hs) (ha.symm ▸ hp) begun
    refine ⟨fun h => ?closed, fun h hbegun => ?segment, fun h hbegun => ?poll, fun hg hs hp => ?opened⟩
    case closed =>
      rcases h with h | ⟨h, hbegun⟩
      · exact ends (elsewhere (by rw [h]; nofun) (by rw [h]; nofun)) ((busClosed_iff a).mpr (.inl h))
      · exact ends (by rw [hbegun]; rfl) ((busClosed_iff a).mpr (.inr h))
    case segment =>
      exact goesOn (e := { u.engine p with activity := .formStart })
        (by rw [hbegun, found_beforeSegment (ha.trans h)]) nofun
    case poll =>
      exact goesOn (e := { u.engine p with activity := .pollStart })
        (by rw [hbegun, found_betweenPolls (ha.trans h)]) nofun
    case opened =>
      refine goesOn (elsewhere hs hp) fun hc => ?_
      rcases (busClosed_iff a).mp (ha ▸ hc) with h | h | h
      · exact hg h
      · exact hs h
      · exact hp h

end Sys2Proof.Machine

/-! SUPPORT. The end of a transaction (R94 to R98): the record made and handed on, what the port's engine and arbiter are
left with, and the course that the port takes. -/

namespace Sys2Proof.Machine

/-! ### A port takes a state (R58, R107) -/

theorem enterPortState_same {s : State} {p : Port} {st : PortState} (h : s.portState p = st) :
    s.enterPortState p st = s := if_pos h

theorem enterPortState_other {s : State} {p : Port} {st : PortState} (h : s.portState p ≠ st) :
    s.enterPortState p st =
      { s with
        engines := s.engines.set p { s.engine p with portState := st }
        portNews := s.portNews.set p (s.portNews.get p ++ [st])
        arbiters := if st = .idle then s.arbiters.set p { s.arbiter p with occasion := true } else s.arbiters } := by
  rw [State.enterPortState, if_neg h]
  dsimp only
  split <;> rfl

/-- A port that becomes IDLE has a grant occasion; no other arbiter is touched (R58). -/
theorem enterPortState_arbiter (s : State) (p : Port) (st : PortState) (q : Port) :
    (s.enterPortState p st).arbiter q =
      if q = p ∧ st = .idle ∧ s.portState p ≠ st then { s.arbiter q with occasion := true } else s.arbiter q := by
  by_cases h : s.portState p = st
  · rw [enterPortState_same h, if_neg (fun hc => hc.2.2 h)]
  · rw [enterPortState_other h]
    by_cases hst : st = .idle
    · simp only [hst, if_true, State.arbiter, PerPort.get_set, true_and]
      rw [hst] at h
      by_cases hq : q = p
      · rw [if_pos hq, if_pos ⟨hq, h⟩, hq]
      · rw [if_neg hq, if_neg (fun hc => hq hc.1)]
    · have hc : ¬(q = p ∧ st = .idle ∧ s.portState p ≠ st) := fun hc => hst hc.2.1
      rw [if_neg hc]
      exact congrArg (PerPort.get · q) (if_neg hst)

/-- A recovery that begins is no grant occasion. -/
theorem enterRecovery_arbiter (s : State) (p : Port) (inTick : Bool) (q : Port) :
    (s.enterRecovery p inTick).arbiter q = s.arbiter q :=
  (enterPortState_arbiter _ _ _ _).trans (if_neg (fun h => absurd h.2.1 (by decide)))

/-! ### The course of a port (R96, R97 step 5) -/

/-- The state a port takes: RECOVERING instead of IDLE while PT_RESET requested is set. -/
def Engine.courseState (e : Engine) : Course → PortState
  | .idle => if e.ptResetRequested then .recovering else .idle
  | .recovering => .recovering
  | .failed => .failed

theorem onCourse_portState (e : Engine) (course : Course) (inTick : Bool) :
    (e.onCourse course inTick).portState = e.courseState course := by
  unfold Engine.onCourse Engine.courseState
  cases course with
  | idle => dsimp only; split <;> rfl
  | recovering => rfl
  | failed => rfl

/-- An engine that has let its transaction go takes its course: only a recovery has an interval (R101). -/
theorem onCourse_of_letGo {e : Engine} (ha : e.activity = .none) (hs : e.stretchTimer = none) (course : Course)
    (inTick : Bool) :
    e.onCourse course inTick =
      { e with
        portState := e.courseState course
        recovery :=
          if e.courseState course = .recovering then some { attempt := 1, pulses := 0, step := .clockWait }
          else e.recovery
        waitTimer := if e.courseState course = .recovering then some (if inTick then 1 else 2) else e.waitTimer } := by
  have hrec : { e.beginRecovery inTick with portState := .recovering } =
      { e with
        portState := .recovering, recovery := some { attempt := 1, pulses := 0, step := .clockWait }
        waitTimer := some (if inTick then 1 else 2) } := by
    rw [Engine.beginRecovery, ← ha, ← hs]
    rfl
  unfold Engine.onCourse Engine.courseState
  cases course with
  | idle =>
    dsimp only
    split
    · exact hrec
    · rfl
  | recovering => exact hrec
  | failed => rfl

theorem takeCourse_arbiter (s : State) (p : Port) (course : Course) (inTick : Bool) (q : Port) :
    (s.takeCourse p course inTick).arbiter q =
      if q = p ∧ (s.engine p).courseState course = .idle ∧ s.portState p ≠ .idle then
        { s.arbiter q with occasion := true }
      else s.arbiter q := by
  unfold State.takeCourse Engine.courseState
  cases course with
  | idle =>
    dsimp only
    split
    · exact (enterRecovery_arbiter s p inTick q).trans (if_neg (fun h => nomatch h.2.1)).symm
    · exact enterPortState_arbiter s p .idle q
  | recovering =>
    exact (enterRecovery_arbiter s p inTick q).trans (if_neg (fun h => nomatch h.2.1)).symm
  | failed =>
    exact ((enterPortState_arbiter s p .failed q).trans (if_neg (fun h => nomatch h.2.1))).trans
      (if_neg (fun h => nomatch h.2.1)).symm

/-! ### The range released (R52) -/

theorem raiseOccasionIfIdle_portState (s : State) (p q : Port) : (s.raiseOccasionIfIdle p).portState q = s.portState q := by
  unfold State.raiseOccasionIfIdle
  split <;> rfl

theorem raiseOccasionIfIdle_arbiter (s : State) (p q : Port) : (s.raiseOccasionIfIdle p).arbiter q =
    if q = p ∧ s.portState q = .idle then { s.arbiter q with occasion := true } else s.arbiter q := by
  unfold State.raiseOccasionIfIdle State.raiseOccasion
  by_cases hq : q = p
  · subst hq
    split
    · next h => rw [if_pos ⟨rfl, h⟩, setArbiter_arbiter_same]
    · next h => exact (if_neg fun hc => h hc.2).symm
  · have hc : ¬(q = p ∧ s.portState q = .idle) := fun hc => hq hc.1
    rw [if_neg hc]
    split
    · exact (setArbiter_arbiter _ _ _ _).trans (if_neg hq)
    · rfl

theorem raiseOccasions_arbiter (ps : List Port) (s : State) (q : Port) :
    (ps.foldl State.raiseOccasionIfIdle s).arbiter q =
      if q ∈ ps ∧ s.portState q = .idle then { s.arbiter q with occasion := true } else s.arbiter q := by
  induction ps generalizing s with
  | nil => rfl
  | cons p rest ih =>
    rw [List.foldl_cons, ih, raiseOccasionIfIdle_portState, raiseOccasionIfIdle_arbiter]
    by_cases hidle : s.portState q = .idle
    · by_cases hq : q = p
      · subst hq
        by_cases hr : q ∈ rest <;> simp [hidle, hr]
      · simp [hidle, hq]
    · simp [hidle]

/-- R52: a range released gives every IDLE port a grant occasion. -/
theorem releaseRange_arbiter (s : State) (p q : Port) : (s.releaseRange p).arbiter q =
    if s.portState q = .idle then { s.arbiter q with occasion := true } else s.arbiter q := by
  have hmem : q ∈ allPorts := by cases q <;> simp [allPorts]
  refine (raiseOccasions_arbiter allPorts { s with busy := s.busy.set p none } q).trans ?_
  exact if_congr (and_iff_right hmem) rfl rfl

/-! ### The record and the WATCH part of a completion (R95, R97 step 1, R116 to R118) -/

/-- The completion record (R95). -/
def Engine.made (e : Engine) (t : Transaction) (r : Result) : Record :=
  { result := r, moved := e.bytesMoved t r, attempts := e.attempts }

theorem bytesMoved_eq (e : Engine) (t : Transaction) (r : Result) : e.bytesMoved t r =
    if t.transfer.op = .read then e.moved
    else if t.transfer.op = .write then (if t.defn.kind = .memory then e.confirmed else e.moved)
    else if r = .done then t.transfer.length else 0 := by
  have hseg (h : t.transfer.op = .write) : t.segmented = true ↔ t.defn.kind = .memory :=
    (segmented_iff t).trans (and_iff_left h)
  unfold Engine.bytesMoved
  cases hop : t.transfer.op with
  | read => rfl
  | write => exact (if_congr (hseg hop) rfl rfl : _ = if t.defn.kind = .memory then e.confirmed else e.moved)
  | watch mode hold => rfl

section WatchPart
variable {s : State} {e : Engine} {t : Transaction} {r : Result}

/-- A WATCH of whose end nothing is stored has not ended with DONE. -/
theorem not_done_of_watch {mode : WatchMode} {hold : Bool} (hop : t.transfer.op = .watch mode hold)
    (h : t.transfer.op = .read ∨ t.transfer.op = .write ∨ r ≠ .done) : r ≠ .done := by
  rcases h with h | h | h
  · exact absurd (hop.symm.trans h) nofun
  · exact absurd (hop.symm.trans h) nofun
  · exact h

theorem watchOutcome_none (h : t.transfer.op = .read ∨ t.transfer.op = .write ∨ r ≠ .done) :
    s.watchOutcome e t r = none := by
  unfold State.watchOutcome
  split
  · next hop => exact if_neg (not_done_of_watch hop h)
  · rfl
  · rfl

theorem watchOutcome_done {mode : WatchMode} {hold : Bool} (h : t.transfer.op = .watch mode hold) :
    s.watchOutcome e t .done =
      some (if comparisonHits s.staging t.transfer mode (e.reading t) then .hit else .noHit) := by
  simp only [State.watchOutcome, h, if_true]

theorem settleWatch_untouched (h : t.transfer.op = .read ∨ t.transfer.op = .write ∨ r ≠ .done) :
    s.settleWatch e t r = s := by
  unfold State.settleWatch
  split
  · next hop => exact if_neg (not_done_of_watch hop h)
  · rfl
  · rfl

theorem settleWatch_done {mode : WatchMode} {hold : Bool} (h : t.transfer.op = .watch mode hold) :
    s.settleWatch e t .done =
      { s with
        staging := s.staging.writeBytes (t.transfer.position + 2 * t.transfer.length) (e.reading t)
        out :=
          if comparisonHits s.staging t.transfer mode (e.reading t) then
            s.out.claim (watchHitNotice t mode (e.reading t))
          else s.out } := by
  simp only [State.settleWatch, h, if_true, watchOutcome_done h, claimIf_eq]
  cases comparisonHits s.staging t.transfer mode (e.reading t) <;> rfl

theorem watchHitNotice_channel {c : ChannelIx} (h : t.owner = .channel c) (mode : WatchMode) (reading : List Byte) :
    watchHitNotice t mode reading = .watchHit false c.val t.index mode reading := by
  rw [watchHitNotice, h]

theorem watchHitNotice_ticket {n : Nat} (h : t.owner = .ticket n) (mode : WatchMode) (reading : List Byte) :
    watchHitNotice t mode reading = .watchHit true n t.index mode reading := by
  rw [watchHitNotice, h]

end WatchPart

/-! ### The transaction handed on (R97 steps 1 to 5) -/

/-- The state in which the port of a transaction that has ended takes its course. -/
def State.handedOn (s : State) (p : Port) (e : Engine) (t : Transaction) (r : Result) : State :=
  let u := ((s.settleWatch e t r).setEngine p (e.countCompletion r)).passRecord p t (e.made t r) (s.watchOutcome e t r)
  (u.setEngine p (u.engine p).letGo).setArbiter p { u.arbiter p with grant := none }

theorem endTransaction_eq (s : State) (p : Port) (e : Engine) (t : Transaction) (r : Result) (course : Course)
    (inTick : Bool) : s.endTransaction p e t r course inTick = (s.handedOn p e t r).takeCourse p course inTick := rfl

section HandedOn
variable {s : State} {p : Port} {e : Engine} {t : Transaction} {r : Result}

/-- R180: a boot memory read's record goes to the Replay Unit; no range is released. -/
theorem handedOn_replay (ho : t.owner = .replay) : s.handedOn p e t r =
    { s with
      staging := (s.settleWatch e t r).staging, out := (s.settleWatch e t r).out
      replay := { s.replay with record := some (e.made t r) }
      engines := s.engines.set p (e.countCompletion r).letGo
      arbiters := s.arbiters.set p { s.arbiter p with grant := none } } := by
  obtain ⟨st, out, hw⟩ := settleWatch_touches s e t r
  rw [State.handedOn, State.passRecord, ho, hw]
  cases p <;> rfl

/-- The record of a channel or ticket stays with the engine for the Target Table, and the range is released (R97). -/
theorem handedOn_owner (ho : t.owner ≠ .replay) : ∃ arb, s.handedOn p e t r =
    { s with
      staging := (s.settleWatch e t r).staging, out := (s.settleWatch e t r).out, busy := s.busy.set p none
      engines := s.engines.set p
        { (e.countCompletion r).letGo with
          record := some
            { record := e.made t r, owner := t.owner, slot := t.transfer.slot, outcome := s.watchOutcome e t r } }
      arbiters := arb }
    ∧ (∀ q, q ≠ p → arb.get q = if s.portState q = .idle then { s.arbiter q with occasion := true } else s.arbiter q)
    ∧ (arb.get p).grant = none ∧ (e.portState = .idle → (arb.get p).occasion = true) := by
  obtain ⟨st, out, hw⟩ := settleWatch_touches s e t r
  have hpass : ∀ u : State, u.passRecord p t (e.made t r) (s.watchOutcome e t r) =
      (u.releaseRange p).setEngine p
        { (u.releaseRange p).engine p with
          record := some
            { record := e.made t r, owner := t.owner, slot := t.transfer.slot, outcome := s.watchOutcome e t r } } := by
    intro u
    unfold State.passRecord
    split
    · next h => exact absurd h ho
    · rfl
    · rfl
  rw [State.handedOn, hpass, hw]
  generalize hu : ({ s with staging := st, out := out } : State).setEngine p (e.countCompletion r) = u
  obtain ⟨arb, hr⟩ := releaseRange_touches u p
  have harb : ∀ q, arb.get q = if u.portState q = .idle then { u.arbiter q with occasion := true } else u.arbiter q :=
    fun q => (congrArg (·.arbiter q) hr).symm.trans (releaseRange_arbiter u p q)
  rw [hr]
  refine ⟨arb.set p { arb.get p with grant := none }, ?_, fun q hq => ?_, ?_, fun hidle => ?_⟩
  · subst hu
    cases p <;> rfl
  · rw [PerPort.get_set, if_neg hq, harb, ← hu, setEngine_portState, if_neg hq]
    rfl
  · rw [PerPort.get_set_same]
  · rw [PerPort.get_set_same, harb, ← hu, setEngine_portState_same]
    exact congrArg Arbiter.occasion (if_pos hidle)

end HandedOn

/-! ### What the end of a transaction leaves (R97, R98, R101) -/

section End
variable (s : State) (p : Port) (e : Engine) (t : Transaction) (r : Result) (course : Course) (inTick : Bool)

theorem ended_eq (rec_ : Record) (o : Option WatchOutcome) : e.ended t r rec_ o =
    { (e.countCompletion r).letGo with record := (e.ended t r rec_ o).record } := by
  unfold Engine.ended
  split <;> rfl

theorem handedOn_engine :
    (s.handedOn p e t r).engine p = e.ended t r (e.made t r) (s.watchOutcome e t r) := by
  unfold Engine.ended
  by_cases ho : t.owner = .replay
  · rw [handedOn_replay ho, ho]
    exact PerPort.get_set_same _ _ _
  · obtain ⟨arb, h, -⟩ := handedOn_owner (s := s) (p := p) (e := e) (r := r) ho
    rw [h]
    refine (PerPort.get_set_same _ _ _).trans ?_
    split
    · next h => exact absurd h ho
    · rfl
    · rfl

theorem handedOn_portState : (s.handedOn p e t r).portState p = e.portState := by
  rw [State.portState, handedOn_engine, ended_eq]
  rfl

theorem handedOn_courseState : ((s.handedOn p e t r).engine p).courseState course = e.courseState course := by
  rw [handedOn_engine, ended_eq]
  rfl

theorem handedOn_portNews : (s.handedOn p e t r).portNews = s.portNews := by
  by_cases ho : t.owner = .replay
  · rw [handedOn_replay ho]
  · obtain ⟨arb, h, -⟩ := handedOn_owner (s := s) (p := p) (e := e) (r := r) ho
    rw [h]

/-- The port's course touches its engine, its announcements and the arbiters, of what is handed on. -/
theorem endTransaction_handedOn : ∃ news arb, s.endTransaction p e t r course inTick =
    { s.handedOn p e t r with
      engines := (s.handedOn p e t r).engines.set p (((s.handedOn p e t r).engine p).onCourse course inTick)
      portNews := news, arbiters := arb } :=
  takeCourse_touches (s.handedOn p e t r) p course inTick

/-- The engine of the port holds nothing of the transaction and has taken its course. -/
theorem endTransaction_engine : (s.endTransaction p e t r course inTick).engine p =
    { e with
      portState := e.courseState course, activity := .none, transaction := none, segment := none
      abortRequested := false
      record := (e.ended t r (e.made t r) (s.watchOutcome e t r)).record
      transactions := min (e.transactions + 1) 65535
      failures := if r = .done then e.failures else min (e.failures + 1) 65535
      recovery :=
        if e.courseState course = .recovering then some { attempt := 1, pulses := 0, step := .clockWait }
        else e.recovery
      waitTimer := if e.courseState course = .recovering then some (if inTick then 1 else 2) else none
      stretchTimer := none, cycleTimer := none, cycleExpired := false } := by
  obtain ⟨news, arb, h⟩ := endTransaction_handedOn s p e t r course inTick
  have hp : (s.endTransaction p e t r course inTick).engine p = ((s.handedOn p e t r).engine p).onCourse course inTick := by
    rw [h]
    exact PerPort.get_set_same _ _ _
  rw [hp, handedOn_engine, ended_eq, onCourse_of_letGo rfl rfl]
  rfl

theorem endTransaction_portState : (s.endTransaction p e t r course inTick).portState p = e.courseState course := by
  rw [State.portState, endTransaction_engine]

theorem endTransaction_engine_ne {q : Port} (hq : q ≠ p) :
    (s.endTransaction p e t r course inTick).engine q = s.engine q := by
  obtain ⟨busy, arb, news, rep, h⟩ := endTransaction_touches s p e t r course inTick
  rw [h]
  exact (PerPort.get_set _ _ _ _).trans (if_neg hq)

/-- Staging memory and the sending side are as the WATCH part of the completion leaves them. -/
theorem endTransaction_watchPart : (s.endTransaction p e t r course inTick).staging = (s.settleWatch e t r).staging
    ∧ (s.endTransaction p e t r course inTick).out = (s.settleWatch e t r).out := by
  obtain ⟨busy, arb, news, rep, h⟩ := endTransaction_touches s p e t r course inTick
  rw [h]
  exact ⟨rfl, rfl⟩

theorem endTransaction_portNews : (s.endTransaction p e t r course inTick).portNews =
    if e.courseState course = e.portState then s.portNews
    else s.portNews.set p (s.portNews.get p ++ [e.courseState course]) := by
  rw [endTransaction_eq, takeCourse_news, onCourse_portState, handedOn_courseState, handedOn_portState,
    handedOn_portNews]

theorem endTransaction_arbiter (q : Port) : (s.endTransaction p e t r course inTick).arbiter q =
    if q = p ∧ e.courseState course = .idle ∧ e.portState ≠ .idle then
      { (s.handedOn p e t r).arbiter q with occasion := true }
    else (s.handedOn p e t r).arbiter q := by
  rw [endTransaction_eq, takeCourse_arbiter, handedOn_courseState, handedOn_portState]

theorem endTransaction_arbiter_ne {q : Port} (hq : q ≠ p) :
    (s.endTransaction p e t r course inTick).arbiter q = (s.handedOn p e t r).arbiter q := by
  rw [endTransaction_arbiter]
  exact if_neg fun h => hq h.1

end End

/-! ### The end by the owner of the transaction (R52, R97, R180) -/

section EndOf
variable {s : State} {p : Port} {e : Engine} {t : Transaction} {r : Result} {course : Course} {inTick : Bool}

theorem endTransaction_replay (ho : t.owner = .replay) :
    (s.endTransaction p e t r course inTick).replay = { s.replay with record := some (e.made t r) }
    ∧ ((s.endTransaction p e t r course inTick).engine p).record = e.record
    ∧ (s.endTransaction p e t r course inTick).busy = s.busy
    ∧ ∀ q, q ≠ p → (s.endTransaction p e t r course inTick).arbiter q = s.arbiter q := by
  obtain ⟨news, arb, h⟩ := endTransaction_handedOn s p e t r course inTick
  refine ⟨?_, ?_, ?_, fun q hq => ?_⟩
  · rw [h, handedOn_replay ho]
  · rw [endTransaction_engine]
    simp only [Engine.ended, ho]
    rfl
  · rw [h, handedOn_replay ho]
  · rw [endTransaction_arbiter_ne _ _ _ _ _ _ _ hq, handedOn_replay ho]
    exact (PerPort.get_set _ _ _ _).trans (if_neg hq)

theorem endTransaction_owner (ho : t.owner ≠ .replay) :
    (s.endTransaction p e t r course inTick).replay = s.replay
    ∧ ((s.endTransaction p e t r course inTick).engine p).record = some
      { record := e.made t r, owner := t.owner, slot := t.transfer.slot, outcome := s.watchOutcome e t r }
    ∧ (s.endTransaction p e t r course inTick).busy = s.busy.set p none
    ∧ ∀ q, q ≠ p → (s.endTransaction p e t r course inTick).arbiter q =
      if s.portState q = .idle then { s.arbiter q with occasion := true } else s.arbiter q := by
  obtain ⟨news, arb, h⟩ := endTransaction_handedOn s p e t r course inTick
  obtain ⟨arb', hh, hne, -⟩ := handedOn_owner (s := s) (p := p) (e := e) (r := r) ho
  refine ⟨?_, ?_, ?_, fun q hq => ?_⟩
  · rw [h, hh]
  · rw [endTransaction_engine]
    unfold Engine.ended
    dsimp only
    split
    · next h => exact absurd h ho
    · rfl
    · rfl
  · rw [h, hh]
  · rw [endTransaction_arbiter_ne _ _ _ _ _ _ _ hq, hh]
    exact hne q hq

/-- The current grant of the port is empty, and the port has a grant occasion if it has become IDLE or its range was
released while it was (R52, R58). -/
theorem endTransaction_arbiter_same : ((s.endTransaction p e t r course inTick).arbiter p).grant = none
    ∧ (e.courseState course = .idle → t.owner ≠ .replay ∨ e.portState ≠ .idle →
      ((s.endTransaction p e t r course inTick).arbiter p).occasion = true) := by
  have hgrant : ((s.handedOn p e t r).arbiter p).grant = none :=
    congrArg Arbiter.grant (setArbiter_arbiter_same _ _ _)
  rw [endTransaction_arbiter]
  refine ⟨by split <;> exact hgrant, fun hc h => ?_⟩
  by_cases hp : e.portState = .idle
  · have ho : t.owner ≠ .replay := h.resolve_right (· hp)
    obtain ⟨arb, hh, -, -, hocc⟩ := handedOn_owner (s := s) (p := p) (e := e) (r := r) ho
    rw [if_neg fun hn => hn.2.2 hp, hh]
    exact hocc hp
  · rw [if_pos ⟨rfl, hc, hp⟩]

/-- The current grant of every other port stays. -/
theorem endTransaction_grant_ne {q : Port} (hq : q ≠ p) :
    ((s.endTransaction p e t r course inTick).arbiter q).grant = (s.arbiter q).grant := by
  by_cases ho : t.owner = .replay
  · rw [(endTransaction_replay ho).2.2.2 q hq]
  · rw [(endTransaction_owner ho).2.2.2 q hq]
    split <;> rfl

end EndOf

/-- Settles O52: a port's state taken, the notice of a hit, then the end by the owner, the WATCH part and the course. -/
theorem transactionEnds : Obligations.TransactionEnds := by
  refine ⟨fun s p st => ⟨enterPortState_same, enterPortState_other⟩,
    fun t mode reading => ⟨fun c ho => watchHitNotice_channel ho mode reading,
      fun n ho => watchHitNotice_ticket ho mode reading⟩, ?_⟩
  intro s u p e t r course inTick hu made
  have hmade : e.made t r = made := by rw [Engine.made, bytesMoved_eq]
  have hengine := hu ▸ endTransaction_engine s p e t r course inTick
  have hstate : u.portState p = e.courseState course := hu ▸ endTransaction_portState s p e t r course inTick
  have hwatch := hu ▸ endTransaction_watchPart s p e t r course inTick
  refine ⟨fun ho => ?owner, fun ho => ?replay, fun h => ?silent, fun mode hold hop hr => ?watch, ?state, ?phase,
    fun hrec => ?attempt, ?engine, ?news, fun hidle => ?occasion, ?grant, fun q hq => ?others, ?frame⟩
  case owner =>
    obtain ⟨hreplay, hrecord, hbusy, harb⟩ := hu ▸ endTransaction_owner (s := s) (p := p) (e := e) (r := r)
      (course := course) (inTick := inTick) ho
    refine ⟨⟨s.watchOutcome e t r, ?_, watchOutcome_none, fun mode hold hop hr => ?_⟩, hbusy, hreplay,
      fun q hq => ⟨fun hidle => ?_, fun hidle => ?_⟩⟩
    · rw [hrecord, hmade]
    · rw [hr, watchOutcome_done hop]
      rfl
    · rw [harb q hq, if_pos hidle]
    · rw [harb q hq, if_neg hidle]
  case replay =>
    obtain ⟨hreplay, hrecord, hbusy, harb⟩ := hu ▸ endTransaction_replay (s := s) (p := p) (e := e) (r := r)
      (course := course) (inTick := inTick) ho
    exact ⟨hmade ▸ hreplay, hrecord, hbusy, fun q hq => by rw [harb q hq]⟩
  case silent =>
    rw [settleWatch_untouched h] at hwatch
    exact hwatch
  case watch =>
    rw [hr, settleWatch_done hop] at hwatch
    exact hwatch
  case state => rw [hstate]; cases course <;> rfl
  case phase => rw [hengine, Engine.phase, Activity.phase, ite_self]
  case attempt =>
    have hfirst : (u.engine p).recovery = some { attempt := 1, pulses := 0, step := .clockWait } := by
      rw [hengine]
      exact if_pos (hstate ▸ hrec)
    exact recoveryAttempt_some hfirst
  case engine => rw [hstate]; rw [hengine]
  case news => rw [hstate, hu, endTransaction_portNews]
  case occasion => exact hu ▸ endTransaction_arbiter_same.2 (hstate ▸ hidle)
  case grant => exact hu ▸ endTransaction_arbiter_same.1
  case others => exact hu ▸ ⟨endTransaction_engine_ne s p e t r course inTick hq, endTransaction_grant_ne hq⟩
  case frame =>
    obtain ⟨busy, arb, news, rep, h⟩ := endTransaction_touches s p e t r course inTick
    rw [hu, h]

end Sys2Proof.Machine

/-! SUPPORT. Recovery (R102 to R105): the record handed on before a step makes nothing due, the steps of an attempt, and the
outcomes. -/

namespace Sys2Proof.Machine

/-! ### Nothing is due -/

theorem isDue_retransmit_iff (s : State) (number : Nat) : s.isDue (.retransmit number) = true ↔
    ∃ n ∈ s.out.notices.held, n.timerOut number = true := List.any_eq_true

theorem timerOut_iff (number : Nat) (n : Notice) :
    n.timerOut number = true ↔ n.number = number ∧ n.inWindow = true ∧ n.timer = .running 0 := by
  simp only [Notice.timerOut, Notice.inWindowWith, Bool.and_eq_true, beq_iff_eq]
  tauto

/-- No expiry is due exactly when no interval whatever has run out. -/
theorem expiries_eq_nil_iff (s : State) : s.expiries = [] ↔ ∀ x, s.isDue x = false := by
  have hfilter : s.expiries = [] ↔ ∀ x ∈ s.intervals, s.isDue x = false := by
    simp [State.expiries, List.filter_eq_nil_iff]
  rw [hfilter]
  refine ⟨fun h x => ?_, fun h x _ => h x⟩
  cases x with
  | pacer n => exact h _ (by fin_cases n <;> simp [State.intervals])
  | pause c => exact h _ (by fin_cases c <;> simp [State.intervals, allChannels])
  | passGap c => exact h _ (by fin_cases c <;> simp [State.intervals, allChannels])
  | linkGap => exact h _ (by simp [State.intervals])
  | retransmit number =>
    rw [Bool.eq_false_iff, Ne, isDue_retransmit_iff]
    rintro ⟨n, hn, hout⟩
    have hnumber := ((timerOut_iff number n).mp hout).1
    have hmem : Expiry.retransmit number ∈ s.intervals := by
      simp only [State.intervals, List.mem_append, List.mem_map]
      exact .inl (.inr ⟨n, hn, by rw [hnumber]⟩)
    exact absurd ((isDue_retransmit_iff s number).mpr ⟨n, hn, hout⟩) (by rw [h _ hmem]; decide)
  | stretch p => exact h _ (by cases p <;> simp [State.intervals, allPorts])
  | stopClockWait p => exact h _ (by cases p <;> simp [State.intervals, allPorts])
  | cycleLimit p b => exact h (.cycleLimit p true) (by cases p <;> simp [State.intervals, allPorts])
  | retryGap p => exact h _ (by cases p <;> simp [State.intervals, allPorts])
  | recoveryClockWait p => exact h _ (by cases p <;> simp [State.intervals, allPorts])
  | recoveryGap p => exact h _ (by cases p <;> simp [State.intervals, allPorts])

/-! ### A claim ends no retransmit timer (R139 to R148) -/

/-- Every notice whose timer has run out after a change had it run out before. -/
def NoMoreTimersOut (before after : List Notice) : Prop :=
  ∀ number, ∀ n ∈ after, n.timerOut number = true → ∃ m ∈ before, m.timerOut number = true

theorem NoMoreTimersOut.of_subset {before after : List Notice} (h : ∀ n ∈ after, n ∈ before) :
    NoMoreTimersOut before after := fun _ n hn hout => ⟨n, h n hn, hout⟩

theorem NoMoreTimersOut.trans {a b c : List Notice} (h : NoMoreTimersOut a b) (k : NoMoreTimersOut b c) :
    NoMoreTimersOut a c := fun number n hn hout =>
  let ⟨m, hm, hmout⟩ := k number n hn hout
  h number m hm hmout

theorem mergeInto_timers (held : List Notice) (k : NoticeKind) : NoMoreTimersOut held (mergeInto held k) := by
  intro number n hn hout
  unfold mergeInto at hn
  split at hn
  · exact ⟨n, hn, hout⟩
  · rcases mem_modifyFirst hn with h | ⟨m, hm, -, rfl⟩
    · exact ⟨n, h, hout⟩
    · exact ⟨m, hm, hout⟩

/-- A notice stored has no timer (R141). -/
theorem store_timers (q : NoticeQueue) (k : NoticeKind) : NoMoreTimersOut q.held (q.store k).held := by
  intro number n hn hout
  rcases List.mem_append.mp hn with h | h
  · exact ⟨n, h, hout⟩
  · rw [List.mem_singleton.mp h] at hout
    exact absurd ((timerOut_iff _ _).mp hout).2.1 Bool.false_ne_true

theorem settle_timers (q : NoticeQueue) (k : NoticeKind) : NoMoreTimersOut q.held (q.settle k).held := by
  rcases settle_cases q k with ⟨-, h⟩ | ⟨-, -, h⟩ | ⟨-, -, rest, hd, h⟩ | ⟨-, -, -, h⟩
  · rw [h]
    exact mergeInto_timers q.held k
  · rw [h]
    exact store_timers { q with counters := _ } k
  · rw [h]
    obtain ⟨c, -, -, hrest⟩ := displace_some hd
    refine NoMoreTimersOut.trans (.of_subset fun n hn => ?_) (store_timers _ k)
    exact List.mem_of_mem_eraseP (hrest ▸ hn)
  · rw [h]
    exact .of_subset fun _ => id

/-- A notice sent has no timer while its frame is on the link (R146). -/
theorem sendNotice_timers (o : Outbound) (sel : Notice → Bool) (again : Bool) :
    NoMoreTimersOut o.notices.held (o.sendNotice sel again).notices.held := by
  intro number n hn hout
  unfold Outbound.sendNotice at hn
  split at hn
  · exact ⟨n, hn, hout⟩
  · rcases mem_modifyFirst hn with h | ⟨m, -, -, rfl⟩
    · exact ⟨n, h, hout⟩
    · exact absurd ((timerOut_iff _ _).mp hout).2.2 nofun

theorem choose_timers (o : Outbound) : NoMoreTimersOut o.notices.held o.choose.notices.held := by
  rcases choose_cases o with h | ⟨r, -, h⟩ | ⟨-, -, h⟩ | ⟨-, -, h⟩
  · rw [h]; exact .of_subset fun _ => id
  · rw [h]; exact .of_subset fun _ => id
  · rw [h]; exact sendNotice_timers o _ _
  · rw [h]; exact sendNotice_timers o _ _

theorem claim_timers (o : Outbound) (k : NoticeKind) : NoMoreTimersOut o.notices.held (o.claim k).notices.held :=
  (settle_timers o.notices k).trans (choose_timers { o with notices := o.notices.settle k })

/-! ### The record handed on before a step of a recovery (R37, R97, log entry 12) -/

section Passed
variable (s : State) (p : Port)

/-- R37, R38: at most one claim is made. -/
theorem accountSlot_out (n : SlotIx) (r : Result) :
    (s.accountSlot n r).out = s.out ∨ ∃ k, (s.accountSlot n r).out = s.out.claim k := by
  unfold State.accountSlot
  dsimp only
  split
  · exact .inr ⟨_, rfl⟩
  · exact .inl rfl

/-- R62: a channel is handed a record, and no interval of it is touched. -/
theorem deliver_channel_touches (m : MadeRecord) (c : ChannelIx) :
    ∃ a, (s.deliver m).channel c = { s.channel c with arriving := a } := by
  unfold State.deliver
  split
  · next k _ =>
    by_cases hc : c = k
    · subst hc
      exact ⟨_, setChannel_channel_same _ _ _⟩
    · exact ⟨(s.channel c).arriving, (setChannel_channel _ _ _ _).trans (if_neg hc)⟩
  · exact ⟨(s.channel c).arriving, rfl⟩
  · exact ⟨(s.channel c).arriving, rfl⟩

theorem onTargetAccounting_channel (c : ChannelIx) :
    ∃ a, (s.onTargetAccounting p).channel c = { s.channel c with arriving := a } := by
  unfold State.onTargetAccounting
  split
  · exact ⟨(s.channel c).arriving, rfl⟩
  · next m _ =>
    obtain ⟨slots, news, out, h⟩ :=
      accountSlot_touches (s.setEngine p { s.engine p with record := none }) m.slot m.record.result
    rw [h]
    exact deliver_channel_touches _ m c

theorem onTargetAccounting_out :
    (s.onTargetAccounting p).out = s.out ∨ ∃ k, (s.onTargetAccounting p).out = s.out.claim k := by
  unfold State.onTargetAccounting
  split
  · exact .inl rfl
  · next m _ =>
    obtain ⟨channels, tickets, h⟩ := deliver_touches
      ((s.setEngine p { s.engine p with record := none }).accountSlot m.slot m.record.result) m
    rw [h]
    exact accountSlot_out _ _ _

/-- Every engine is as before but for the record of the port's own. -/
theorem onTargetAccounting_engines (q : Port) :
    ∃ rec_, (s.onTargetAccounting p).engine q = { s.engine q with record := rec_ } := by
  by_cases hq : q = p
  · subst hq
    exact ⟨none, onTargetAccounting_engine s q⟩
  · obtain ⟨_, _, _, _, _, h⟩ := onTargetAccounting_touches s p
    rw [h]
    exact ⟨(s.engine q).record, (PerPort.get_set _ _ _ _).trans (if_neg hq)⟩

theorem onTargetAccounting_operating : (s.onTargetAccounting p).operating = s.operating := by
  obtain ⟨_, _, _, _, _, h⟩ := onTargetAccounting_touches s p
  rw [h]
  rfl

theorem onTargetAccounting_portState (q : Port) : (s.onTargetAccounting p).portState q = s.portState q := by
  obtain ⟨rec_, h⟩ := onTargetAccounting_engines s p q
  rw [State.portState, h]
  rfl

variable {s p}

/-- Taking a record makes no expiry due (R125). -/
theorem onTargetAccounting_isDue {x : Expiry} (h : s.isDue x = false) : (s.onTargetAccounting p).isDue x = false := by
  have hrest : (s.onTargetAccounting p).pacers = s.pacers ∧ (s.onTargetAccounting p).link = s.link := by
    obtain ⟨_, _, _, _, _, h⟩ := onTargetAccounting_touches s p
    rw [h]
    exact ⟨rfl, rfl⟩
  have hbusy (q : Port) (due : Engine → Bool) (hdue : ∀ e rec_, due { e with record := rec_ } = due e) :
      (s.onTargetAccounting p).busyDue q due = s.busyDue q due := by
    obtain ⟨rec_, he⟩ := onTargetAccounting_engines s p q
    rw [State.busyDue, onTargetAccounting_portState, he, hdue]
    rfl
  have hrecovery (q : Port) (due : Recovery → Option Nat → Bool) :
      (s.onTargetAccounting p).recoveryDue q due = s.recoveryDue q due := by
    obtain ⟨rec_, he⟩ := onTargetAccounting_engines s p q
    rw [State.recoveryDue, onTargetAccounting_portState, he]
    rfl
  cases x with
  | pacer n => rwa [State.isDue, State.pacer, hrest.1]
  | pause c =>
    obtain ⟨a, hc⟩ := onTargetAccounting_channel s p c
    rw [State.isDue, hc]
    exact h
  | passGap c =>
    obtain ⟨a, hc⟩ := onTargetAccounting_channel s p c
    rw [State.isDue, hc]
    exact h
  | linkGap => rwa [State.isDue, hrest.2]
  | retransmit number =>
    rw [Bool.eq_false_iff, Ne, isDue_retransmit_iff] at h ⊢
    rintro ⟨n, hn, hout⟩
    rcases onTargetAccounting_out s p with ho | ⟨k, ho⟩
    · exact h ⟨n, ho ▸ hn, hout⟩
    · exact h (claim_timers s.out k number n (ho ▸ hn) hout)
  | stretch q => exact (hbusy q _ fun _ _ => rfl).trans h
  | stopClockWait q => exact (hbusy q _ fun _ _ => rfl).trans h
  | cycleLimit q b => exact (hbusy q _ fun _ _ => rfl).trans h
  | retryGap q => exact (hbusy q _ fun _ _ => rfl).trans h
  | recoveryClockWait q => exact (hrecovery q _).trans h
  | recoveryGap q => exact (hrecovery q _).trans h

theorem onTargetAccounting_quiet (h : s.quiet = true) : (s.onTargetAccounting p).quiet = true := by
  obtain ⟨ho, hx⟩ := quiet_iff.mp h
  exact quiet_iff.mpr ⟨(onTargetAccounting_operating s p).trans ho, (expiries_eq_nil_iff _).mpr fun x =>
    onTargetAccounting_isDue ((expiries_eq_nil_iff s).mp hx x)⟩

/-- A step of a recovery is the same step once the record has gone to its owner. -/
theorem whenRecovering_passed {r : Recovery} {arises : Recovery → Option Nat → Bool}
    (hr : (s.engine p).recovery = some r) (hp : s.portState p = .recovering)
    (ha : arises r (s.engine p).waitTimer = true) (f : State → Engine → Recovery → State) :
    whenRecovering p s arises f = whenRecovering p (s.onTargetAccounting p) arises f := by
  have he := onTargetAccounting_engine s p
  have hr' : ((s.onTargetAccounting p).engine p).recovery = some r := by rw [he]; exact hr
  rw [whenRecovering_of hr hp ha, whenRecovering_of_taken hr' (by rw [he]; exact hp) (by rw [he]; exact ha) (by rw [he])]

end Passed

/-! ### The outcomes of a recovery (R103 to R105) -/

section Outcomes
variable {s : State} {p : Port} {r : Recovery} {inTick : Bool} {t : Transaction}

theorem afterRecovery_idle (ht : (s.engine p).transaction = none) : s.afterRecovery p inTick = s.enterPortState p .idle := by
  rw [State.afterRecovery, ht]

theorem afterRecovery_aborted (ht : (s.engine p).transaction = some t) (hab : (s.engine p).abortRequested = true) :
    s.afterRecovery p inTick = s.endTransaction p (s.engine p) t .aborted .idle inTick := by
  rw [State.afterRecovery, ht]
  exact if_pos hab

/-- R81, R104: the pending transaction begins its first attempt, with the first segment of a memory write. -/
theorem afterRecovery_begins (ht : (s.engine p).transaction = some t) (hab : (s.engine p).abortRequested = false)
    (hp : s.portState p = .recovering) : s.afterRecovery p inTick =
      { s with
        portNews := s.portNews.set p (s.portNews.get p ++ [.busy])
        engines := s.engines.set p (({ s.engine p with portState := .busy } : Engine).beginFirstAttempt t) } := by
  have hbusy : s.portState p ≠ .busy := by rw [hp]; nofun
  rw [State.afterRecovery, ht]
  refine (if_neg (Bool.eq_false_iff.mp hab)).trans ?_
  dsimp only
  rw [enterPortState_engine_same, enterPortState_other hbusy, if_neg nofun]
  cases p <;> rfl

theorem recoverySucceeds_eq (hr : (s.engine p).recovery = some r) : s.recoverySucceeds p =
    (({ s with out := s.out.claim (.portRecovered p r.attempt) } : State).setEngine p
      (s.engine p).closeRecovery).afterRecovery p false := by
  rw [State.recoverySucceeds, recoveryAttempt_some hr]
  rfl

/-- R103: an attempt that fails before the third waits for the next. -/
theorem attemptFails_again (h : r.attempt < 3) : s.attemptFails p r inTick =
    s.setEngine p ((s.engine p).recoverAt { r with step := .gap } (some (if inTick then 10 else 11))) := if_pos h

/-- R105: with the third the recovery fails. -/
theorem attemptFails_last (h : 3 ≤ r.attempt) : s.attemptFails p r inTick =
    (({ s with out := s.out.claim (.portFailed p) } : State).setEngine p
      (s.engine p).closeRecovery).afterFailedRecovery p inTick := if_neg (Nat.not_lt.mpr h)

theorem afterFailedRecovery_failed (ht : (s.engine p).transaction = none) :
    s.afterFailedRecovery p inTick = s.enterPortState p .failed := by
  rw [State.afterFailedRecovery, ht]

theorem afterFailedRecovery_ends (ht : (s.engine p).transaction = some t) :
    s.afterFailedRecovery p inTick = s.endTransaction p (s.engine p) t .portFailed .failed inTick := by
  rw [State.afterFailedRecovery, ht]

end Outcomes

/-! ### The steps of an attempt (R102) -/

theorem clockHigh_clockWait {e : Engine} {r : Recovery} (h : r.step = .clockWait) (dataHigh : Bool) :
    e.clockHigh r dataHigh =
      if dataHigh = true ∨ 9 ≤ r.pulses then e.recoverAt { r with step := .stop } (some 2)
      else e.recoverAt { r with step := .pulse } none := by
  rw [Engine.clockHigh, h]
  exact if_congr (by rw [Bool.or_eq_true, decide_eq_true_iff, Config.recoveryPulses]) rfl rfl

theorem clockHigh_stop {e : Engine} {r : Recovery} (h : r.step = .stop) (dataHigh : Bool) :
    e.clockHigh r dataHigh = e.recoverAt r none := by
  rw [Engine.clockHigh, h]

section Attempt
variable {s : State} {p : Port} {r : Recovery}

theorem exec_clockWaitEnd_recovering (hq : s.quiet = true) (hp : s.portState p = .recovering) (dataHigh : Bool) :
    exec (.clockWaitEnd p dataHigh) s =
      .next (whenRecovering p s (fun r _ => r.step == .clockWait || r.step == .stop) fun s e r =>
        s.setEngine p (e.clockHigh r dataHigh)) := by
  change whenOperating s (fun s => s.onClockWaitEnd p dataHigh) = _
  rw [whenOperating_of hq, State.onClockWaitEnd, if_pos hp]

theorem exec_recoveryPulse_of (hq : s.quiet = true) : exec (.recoveryPulse p) s = .next (s.onRecoveryPulse p) :=
  whenOperating_of hq fun s => s.onRecoveryPulse p

theorem exec_recoveryAttemptEnd_of (hq : s.quiet = true) (lines : Lines) :
    exec (.recoveryAttemptEnd p lines) s = .next (s.onRecoveryAttemptEnd p lines) :=
  whenOperating_of hq fun s => s.onRecoveryAttemptEnd p lines

theorem exec_recoveryClockWaitExpiry_of (ho : s.operating = true) :
    exec (.recoveryClockWaitExpiry p) s = .next (s.onRecoveryClockWaitExpiry p) := whenDue_of ho _

theorem exec_recoveryGapEnd_of (ho : s.operating = true) :
    exec (.recoveryGapEnd p) s = .next (s.onRecoveryGapEnd p) := whenDue_of ho _

/-- The steps of R102 in which the clock line is waited for. -/
theorem waitsForClock_of (h : r.step = .clockWait ∨ r.step = .stop) :
    (r.step == .clockWait || r.step == .stop) = true := by
  rw [Bool.or_eq_true, beq_iff_eq, beq_iff_eq]
  exact h

theorem clockWaitDue_of {timer : Option Nat} (h : r.step = .clockWait ∨ r.step = .stop) (ht : timer = some 0) :
    r.clockWaitDue timer = true := by
  rw [Recovery.clockWaitDue, waitsForClock_of h, ht]
  rfl

theorem gapDue_of {timer : Option Nat} (h : r.step = .gap) (ht : timer = some 0) : r.gapDue timer = true := by
  rw [Recovery.gapDue, h, ht]
  rfl

end Attempt

/-! ### Each step at a port whose engine holds no record -/

section Runs
variable {s : State} {p : Port} {r : Recovery}

theorem clockWaitEnd_taken (hq : s.quiet = true) (hp : s.portState p = .recovering)
    (hr : (s.engine p).recovery = some r) (hrec : (s.engine p).record = none)
    (hs : r.step = .clockWait ∨ r.step = .stop) (dataHigh : Bool) :
    exec (.clockWaitEnd p dataHigh) s = .next (s.setEngine p ((s.engine p).clockHigh r dataHigh)) := by
  rw [exec_clockWaitEnd_recovering hq hp, whenRecovering_of_taken hr hp (waitsForClock_of hs) hrec]

theorem recoveryPulse_taken (hq : s.quiet = true) (hp : s.portState p = .recovering)
    (hr : (s.engine p).recovery = some r) (hrec : (s.engine p).record = none) (hs : r.step = .pulse) :
    exec (.recoveryPulse p) s = .next (s.setEngine p
      ((s.engine p).recoverAt { r with pulses := r.pulses + 1, step := .clockWait } (some 2))) := by
  rw [exec_recoveryPulse_of hq, State.onRecoveryPulse, whenRecovering_of_taken hr hp (beq_iff_eq.mpr hs) hrec]
  rfl

theorem recoveryAttemptEnd_taken (hq : s.quiet = true) (hp : s.portState p = .recovering)
    (hr : (s.engine p).recovery = some r) (hrec : (s.engine p).record = none) (hs : r.step = .stop) (lines : Lines) :
    exec (.recoveryAttemptEnd p lines) s =
      .next (if lines.bothHigh then s.recoverySucceeds p else s.attemptFails p r false) := by
  rw [exec_recoveryAttemptEnd_of hq, State.onRecoveryAttemptEnd,
    whenRecovering_of_taken hr hp (beq_iff_eq.mpr hs) hrec]

theorem recoveryClockWaitExpiry_taken (ho : s.operating = true) (hp : s.portState p = .recovering)
    (hr : (s.engine p).recovery = some r) (hrec : (s.engine p).record = none)
    (hs : r.step = .clockWait ∨ r.step = .stop) (ht : (s.engine p).waitTimer = some 0) :
    exec (.recoveryClockWaitExpiry p) s = .next (s.attemptFails p r true) := by
  rw [exec_recoveryClockWaitExpiry_of ho, State.onRecoveryClockWaitExpiry,
    whenRecovering_of_taken hr hp (clockWaitDue_of hs ht) hrec]

theorem recoveryGapEnd_taken (ho : s.operating = true) (hp : s.portState p = .recovering)
    (hr : (s.engine p).recovery = some r) (hrec : (s.engine p).record = none) (hs : r.step = .gap)
    (ht : (s.engine p).waitTimer = some 0) :
    exec (.recoveryGapEnd p) s = .next (s.setEngine p
      ((s.engine p).recoverAt { attempt := r.attempt + 1, pulses := 0, step := .clockWait } (some 1))) := by
  rw [exec_recoveryGapEnd_of ho, State.onRecoveryGapEnd, whenRecovering_of_taken hr hp (gapDue_of hs ht) hrec]
  rfl

end Runs

/-- Settles O54: each step of an attempt and each outcome with the record handed on, then that a step hands it on first. -/
theorem recoveryRuns : Obligations.RecoveryRuns := by
  refine ⟨?taken, ?passed⟩
  case taken =>
    intro s p r hp hr hrec e with_ closed won lost failedTo
    have fails (inTick : Bool) : failedTo inTick (s.attemptFails p r inTick) := by
      refine ⟨fun h => attemptFails_again h, fun h => ⟨fun ht => ?_, fun t ht => ?_⟩⟩
      · have ht' : (lost.engine p).transaction = none := by rw [setEngine_engine_same]; exact ht
        exact (attemptFails_last h).trans (afterFailedRecovery_failed ht')
      · have ht' : (lost.engine p).transaction = some t := by rw [setEngine_engine_same]; exact ht
        refine ((attemptFails_last h).trans (afterFailedRecovery_ends ht')).trans ?_
        rw [setEngine_engine_same]
        rfl
    have succeeds : s.recoverySucceeds p = won.afterRecovery p false := recoverySucceeds_eq hr
    have hwon : won.engine p = closed := setEngine_engine_same _ _ _
    refine ⟨fun hq => ⟨fun dataHigh hs => ?wait, fun dataHigh hs => ?stop,
      fun hs => recoveryPulse_taken hq hp hr hrec hs, fun lines hs hlow => ⟨_, ?low, fails false⟩,
      fun lines hs hhigh => ?high⟩, fun ho htm => ⟨fun hs => recoveryGapEnd_taken ho hp hr hrec hs htm,
        fun hs => ⟨_, recoveryClockWaitExpiry_taken ho hp hr hrec hs htm, fails true⟩⟩⟩
    case wait =>
      rw [clockWaitEnd_taken hq hp hr hrec (.inl hs), clockHigh_clockWait hs, apply_ite (s.setEngine p)]
      rfl
    case stop =>
      rw [clockWaitEnd_taken hq hp hr hrec (.inr hs), clockHigh_stop hs]
      rfl
    case low => rw [recoveryAttemptEnd_taken hq hp hr hrec hs, hlow, if_neg Bool.false_ne_true]
    case high =>
      rw [recoveryAttemptEnd_taken hq hp hr hrec hs, if_pos hhigh, succeeds]
      refine ⟨fun ht => ?_, fun t ht hab => ?_, fun t ht hab => ?_⟩
      · rw [afterRecovery_idle (by rw [hwon]; exact ht)]
      · rw [afterRecovery_aborted (t := t) (by rw [hwon]; exact ht) (by rw [hwon]; exact hab), hwon]
      · rw [afterRecovery_begins (t := t) (by rw [hwon]; exact ht) (by rw [hwon]; exact hab)
          (by rw [State.portState, hwon]; exact hp), hwon, Engine.beginFirstAttempt, if_congr (segmented_iff t) rfl rfl]
        cases p <;> rfl
  case passed =>
    intro s p r hp hr passed
    have hp' : passed.portState p = .recovering := (onTargetAccounting_portState s p p).trans hp
    refine ⟨by rw [onTargetAccounting_engine], fun hq => ?_, fun ho htm => ?_⟩
    · have hq' : passed.quiet = true := onTargetAccounting_quiet hq
      refine ⟨whenOperating_of hq fun s => s.onTargetAccounting p, fun dataHigh hs => ?_, fun hs => ?_, fun lines hs => ?_⟩
      · rw [exec_clockWaitEnd_recovering hq hp, exec_clockWaitEnd_recovering hq' hp',
          whenRecovering_passed hr hp (waitsForClock_of hs)]
      · rw [exec_recoveryPulse_of hq, exec_recoveryPulse_of hq']
        exact congrArg _ (whenRecovering_passed hr hp (beq_iff_eq.mpr hs) _)
      · rw [exec_recoveryAttemptEnd_of hq, exec_recoveryAttemptEnd_of hq']
        exact congrArg _ (whenRecovering_passed hr hp (beq_iff_eq.mpr hs) _)
    · have ho' : passed.operating = true := (onTargetAccounting_operating s p).trans ho
      refine ⟨fun hs => ?_, fun hs => ?_⟩
      · rw [exec_recoveryGapEnd_of ho, exec_recoveryGapEnd_of ho']
        exact congrArg _ (whenRecovering_passed hr hp (gapDue_of hs htm) _)
      · rw [exec_recoveryClockWaitExpiry_of ho, exec_recoveryClockWaitExpiry_of ho']
        exact congrArg _ (whenRecovering_passed hr hp (clockWaitDue_of hs htm) _)

end Sys2Proof.Machine

/-! SUPPORT. The port commands PT_ENABLE, PT_DISABLE and PT_RESET (R109 to R111): what a port has announced is heard first
(R107), the state that a port then takes, and what each command settles. -/

namespace Sys2Proof.Machine

/-! ### What a port has announced is heard (R107) -/

section HearPort
variable (s : State) (p : Port)

@[simp] theorem hearPort_engines : (s.hearPort p).engines = s.engines := by
  obtain ⟨⟨_, _, _, _, _, h⟩, _⟩ := hearPort_touches s p
  rw [h]

@[simp] theorem hearPort_engine (q : Port) : (s.hearPort p).engine q = s.engine q :=
  congrArg (PerPort.get · q) (hearPort_engines s p)

theorem hearPort_of_news {s : State} {p : Port} (h : s.portNews.get p ≠ []) :
    s.hearPort p = { s with portNews := s.portNews.set p [] }.reevaluate (s.liesOn p) [] :=
  if_neg (fun he => h (List.isEmpty_iff.mp he))

/-- Nothing that the port has announced is left to be heard. -/
theorem hearPort_portNews : (s.hearPort p).portNews = s.portNews.set p [] := by
  by_cases h : s.portNews.get p = []
  · rw [hearPort_of_nil h, ← h, PerPort.set_get_self]
  · obtain ⟨⟨_, _, _, _, he⟩, _⟩ := reevaluate_touches { s with portNews := s.portNews.set p [] } (s.liesOn p) []
    rw [hearPort_of_news h, he]

/-- A port that has been heard and takes another state: that change is the one announcement to come (R58, R107). -/
theorem hearPort_enterPortState {st : PortState} (h : s.portState p ≠ st) :
    (s.hearPort p).enterPortState p st =
      { s.hearPort p with
        engines := s.engines.set p { s.engine p with portState := st }
        portNews := s.portNews.set p [st]
        arbiters :=
          if st = .idle then (s.hearPort p).arbiters.set p { (s.hearPort p).arbiter p with occasion := true }
          else (s.hearPort p).arbiters } := by
  rw [enterPortState_other (by rwa [hearPort_portState]), hearPort_engines, hearPort_engine, hearPort_portNews,
    PerPort.set_set, PerPort.get_set_same]
  rfl

/-- R101, R111: PT_RESET begins a recovery on a port that has been heard. -/
theorem hearPort_requestReset_enterRecovery (h : s.portState p ≠ .recovering) :
    ((s.hearPort p).requestReset p).enterRecovery p false =
      { s.hearPort p with
        engines := s.engines.set p
          { s.engine p with
            portState := .recovering, ptResetRequested := true, activity := .none, stretchTimer := none
            recovery := some { attempt := 1, pulses := 0, step := .clockWait }, waitTimer := some 2 }
        portNews := s.portNews.set p [PortState.recovering] } := by
  have hother : (((s.hearPort p).requestReset p).setEngine p
      ((((s.hearPort p).requestReset p).engine p).beginRecovery false)).portState p ≠ .recovering := by
    rw [setEngine_portState_same, State.requestReset, setEngine_engine_same, hearPort_engine]
    exact h
  rw [State.enterRecovery, enterPortState_other hother, if_neg nofun]
  simp only [State.requestReset, State.setEngine, hearPort_engines, hearPort_portNews, PerPort.set_set, State.engine,
    PerPort.get_set_same]
  rfl

end HearPort

/-! ### PT_RESET by the state of the port (R111) -/

section ResetPort
variable {s : State} {p : Port}

/-- R111, IDLE and FAILED: a recovery begins. -/
theorem resetPort_free (h : s.portState p = .idle ∨ s.portState p = .failed) :
    s.resetPort p = ((s.hearPort p).requestReset p).enterRecovery p false := by
  rcases h with h | h <;> rw [State.resetPort, h]

theorem resetPort_busy (h : s.portState p = .busy) : s.resetPort p = (s.requestReset p).abortGranted p := by
  rw [State.resetPort, h]

theorem resetPort_recovering (h : s.portState p = .recovering) : s.resetPort p = (s.requestReset p).abortPending p := by
  rw [State.resetPort, h]

/-- With an empty current grant no abort request is sent (log entry 32). -/
theorem resetPort_of_no_grant (h : s.portState p = .busy ∨ s.portState p = .recovering)
    (hg : (s.arbiter p).grant = none) : s.resetPort p = s.requestReset p := by
  have hg' : ((s.requestReset p).arbiter p).grant = none := hg
  rcases h with h | h
  · rw [resetPort_busy h, State.abortGranted, hg']
  · rw [resetPort_recovering h, State.abortPending, hg']

/-- R111, BUSY: the current grant's owner's request waits in the engine. -/
theorem resetPort_busy_granted (h : s.portState p = .busy) {owner : Owner} (hg : (s.arbiter p).grant = some owner) :
    s.resetPort p =
      s.setEngine p
        { s.engine p with ptResetRequested := true, abortRequests := (s.engine p).abortRequests ++ [owner] } := by
  have hg' : ((s.requestReset p).arbiter p).grant = some owner := hg
  rw [resetPort_busy h, State.abortGranted, hg']
  simp only [State.requestReset, State.sendAbort, setEngine_engine_same, setEngine_setEngine]

/-- R111, RECOVERING without a transaction: there is nothing to abort. -/
theorem resetPort_recovering_empty (h : s.portState p = .recovering) (ht : (s.engine p).transaction = none) :
    s.resetPort p = s.requestReset p := by
  have ht' : ((s.requestReset p).engine p).transaction = none := by
    rw [State.requestReset, setEngine_engine_same]
    exact ht
  rw [resetPort_recovering h, State.abortPending]
  split
  · rfl
  · exact takeAbortRequest_passes (.inl ht')

/-- R111, R81: the transaction that waits for the recovery takes the request at once; one that has taken a request already is
left as it is. -/
theorem resetPort_recovering_pending (h : s.portState p = .recovering) {t : Transaction}
    (ht : (s.engine p).transaction = some t) (hg : (s.arbiter p).grant = some t.owner) :
    s.resetPort p = s.setEngine p { s.engine p with ptResetRequested := true, abortRequested := true } := by
  have hg' : ((s.requestReset p).arbiter p).grant = some t.owner := hg
  have he : (s.requestReset p).engine p = { s.engine p with ptResetRequested := true } := setEngine_engine_same _ _ _
  rw [resetPort_recovering h, State.abortPending, hg']
  dsimp only
  cases hab : (s.engine p).abortRequested with
  | true =>
    rw [takeAbortRequest_passes (.inr (.inr (by rw [he]; exact hab))), State.requestReset, ← hab]
  | false =>
    rw [takeAbortRequest_recovering (t := t) (by rw [he]; exact ht) rfl (by rw [he]; exact hab) (by rw [he]; exact h),
      he, State.requestReset, setEngine_setEngine]

end ResetPort

/-! ### What each port command settles (R109 to R111) -/

section Settles
variable {payload : List Byte} {s : State} {p : Port}

theorem settlePtEnable_refused (hp : at1 payload 0 = portCode p) (h : s.portState p ≠ .disabled) :
    settlePtEnable payload s = refuse s .wrongState := by
  rw [settlePtEnable, withPort_of hp, if_neg h]

theorem settlePtEnable_taken (hp : at1 payload 0 = portCode p) (h : s.portState p = .disabled) :
    settlePtEnable payload s = taken ((s.hearPort p).enterPortState p .idle) [] := by
  rw [settlePtEnable, withPort_of hp, if_pos h]

theorem settlePtDisable_refused (hp : at1 payload 0 = portCode p)
    (h : s.portState p = .busy ∨ s.portState p = .recovering) : settlePtDisable payload s = refuse s .busy := by
  rcases h with h | h <;> rw [settlePtDisable, withPort_of hp, h]

theorem settlePtDisable_again (hp : at1 payload 0 = portCode p) (h : s.portState p = .disabled) :
    settlePtDisable payload s = taken s [] := by
  rw [settlePtDisable, withPort_of hp, h]

theorem settlePtDisable_taken (hp : at1 payload 0 = portCode p)
    (h : s.portState p = .idle ∨ s.portState p = .failed) :
    settlePtDisable payload s = taken ((s.hearPort p).enterPortState p .disabled) [] := by
  rcases h with h | h <;> rw [settlePtDisable, withPort_of hp, h]

theorem settlePtReset_refused (hp : at1 payload 0 = portCode p) (h : s.portState p = .disabled) :
    settlePtReset payload s = refuse s .wrongState := by
  rw [settlePtReset, withPort_of hp, if_pos h]

/-- The reply of PT_RESET carries the state that the command leaves the port in. -/
theorem settlePtReset_taken (hp : at1 payload 0 = portCode p) (h : s.portState p ≠ .disabled) {u : State}
    (hu : s.resetPort p = u) {st : PortState} (hst : u.portState p = st) :
    settlePtReset payload s = taken u (byte1 st.code) := by
  rw [settlePtReset, withPort_of hp, if_neg h, hu, hst]

/-- A port whose engine changes in other fields is answered with the state it has. -/
theorem settlePtReset_keeps (hp : at1 payload 0 = portCode p) {st : PortState} (h : s.portState p = st)
    (hd : st ≠ .disabled) {e : Engine} (hu : s.resetPort p = s.setEngine p e) (he : e.portState = st) :
    settlePtReset payload s = taken (s.setEngine p e) (byte1 st.code) :=
  settlePtReset_taken hp (h ▸ hd) hu ((setEngine_portState_same s p e).trans he)

end Settles

/-- Settles O32: what is heard first, then each command by the state of the port. -/
theorem portCommands : Obligations.PortCommands := by
  intro s f rest p hp u
  refine ⟨fun h => hearPort_of_nil h, fun h => hearPort_of_news (s := s.takeOldest rest) h,
    fun ht => ⟨fun h => refuses_of ht (settlePtEnable_refused (s := s.takeOldest rest) hp h), fun h => ?enabled⟩,
    fun ht => ⟨fun h => refuses_of ht (settlePtDisable_refused (s := s.takeOldest rest) hp h),
      fun h => answers_of ht (settlePtDisable_again (s := s.takeOldest rest) hp h), fun h => ?disabled⟩,
    fun ht => ⟨fun h => refuses_of ht (settlePtReset_refused (s := s.takeOldest rest) hp h), fun h => ?recovery,
      fun owner h hg => ?granted, fun t h htr hg => ?pending, fun h htr => ?empty, fun h hg => ?noGrant⟩⟩
  case enabled =>
    have hidle : s.portState p ≠ .idle := by rw [h]; nofun
    refine answers_of ht ((settlePtEnable_taken (s := s.takeOldest rest) hp h).trans ?_)
    rw [hearPort_enterPortState (s.takeOldest rest) p hidle, if_pos rfl]
    rfl
  case disabled =>
    have hdis : s.portState p ≠ .disabled := by rcases h with h | h <;> rw [h] <;> nofun
    refine answers_of ht ((settlePtDisable_taken (s := s.takeOldest rest) hp h).trans ?_)
    rw [hearPort_enterPortState (s.takeOldest rest) p hdis, if_neg nofun]
    rfl
  case recovery =>
    have hdis : s.portState p ≠ .disabled := by rcases h with h | h <;> rw [h] <;> nofun
    have hrec : s.portState p ≠ .recovering := by rcases h with h | h <;> rw [h] <;> nofun
    have hu := (resetPort_free (s := s.takeOldest rest) h).trans (hearPort_requestReset_enterRecovery _ p hrec)
    exact answers_of ht (settlePtReset_taken (s := s.takeOldest rest) (st := .recovering) hp hdis hu
      (congrArg Engine.portState (PerPort.get_set_same _ _ _)))
  case granted =>
    have hu := resetPort_busy_granted (s := s.takeOldest rest) h hg
    exact answers_of ht (settlePtReset_keeps (s := s.takeOldest rest) hp h nofun hu h)
  case pending =>
    have hu := resetPort_recovering_pending (s := s.takeOldest rest) h htr hg
    exact answers_of ht (settlePtReset_keeps (s := s.takeOldest rest) hp h nofun hu h)
  case empty =>
    have hu := resetPort_recovering_empty (s := s.takeOldest rest) h htr
    exact answers_of ht (settlePtReset_keeps (s := s.takeOldest rest) hp h nofun hu h)
  case noGrant =>
    have hdis : s.portState p ≠ .disabled := by rcases h with h | h <;> rw [h] <;> nofun
    have hu := resetPort_of_no_grant (s := s.takeOldest rest) h hg
    exact answers_of ht (settlePtReset_keeps (s := s.takeOldest rest) hp rfl hdis hu rfl)

end Sys2Proof.Machine

/-! SUPPORT. The masked comparison of a WATCH (R48, R115): two masked sequences are equal when every masked byte is, and a
part of the block holds the byte of the staging memory at each index. ON_MATCH is such an equality; the other two modes hit
where one fails. -/

namespace Sys2Proof.Machine

theorem eq_iff_getD_eq {as bs : List Byte} {n : Nat} (ha : as.length = n) (hb : bs.length = n) :
    as = bs ↔ ∀ i, i < n → as.getD i 0 = bs.getD i 0 := by
  constructor
  · rintro rfl i _
    rfl
  · intro h
    refine List.ext_getElem (ha.trans hb.symm) fun i hia hib => ?_
    have hi := h i (ha ▸ hia)
    rwa [List.getD_eq_getElem _ _ hia, List.getD_eq_getElem _ _ hib] at hi

/-- R115: the mask applies byte by byte; past the end of either sequence both sides read 0. -/
theorem getD_masked (bytes mask : List Byte) (i : Nat) :
    (masked bytes mask).getD i 0 = bytes.getD i 0 &&& mask.getD i 0 := by
  simp only [masked, List.getD_eq_getElem?_getD, List.getElem?_zipWith]
  cases bytes[i]? with
  | none => simp
  | some b => cases mask[i]? <;> simp

theorem length_masked {bytes mask : List Byte} {n : Nat} (hb : bytes.length = n) (hm : mask.length = n) :
    (masked bytes mask).length = n := by
  rw [masked, List.length_zipWith, hb, hm, Nat.min_self]

/-- R115: a reading and a part of the staging memory, masked by another part of it, are equal byte by byte. -/
theorem masked_eq_masked_readBytes_iff (m : Memory) {reading : List Byte} {n : Nat} (hr : reading.length = n) (a k : Nat) :
    masked reading (m.readBytes k n) = masked (m.readBytes a n) (m.readBytes k n) ↔
      ∀ i, i < n → reading.getD i 0 &&& m.read (k + i) = m.read (a + i) &&& m.read (k + i) := by
  have hk := m.length_readBytes k n
  rw [eq_iff_getD_eq (length_masked hr hk) (length_masked (m.length_readBytes a n) hk)]
  refine forall₂_congr fun i hi => ?_
  rw [getD_masked, getD_masked, m.getD_readBytes k n i hi, m.getD_readBytes a n i hi]

/-- R115: two masked sequences differ when at least one masked byte differs. -/
theorem masked_ne_masked_readBytes_iff (m : Memory) {reading : List Byte} {n : Nat} (hr : reading.length = n) (a k : Nat) :
    masked reading (m.readBytes k n) ≠ masked (m.readBytes a n) (m.readBytes k n) ↔
      ∃ i, i < n ∧ reading.getD i 0 &&& m.read (k + i) ≠ m.read (a + i) &&& m.read (k + i) := by
  rw [ne_eq, masked_eq_masked_readBytes_iff m hr a k]
  simp only [not_forall, exists_prop, ne_eq]

/-! ### What each mode compares (R48, R115) -/

theorem comparisonHits_onChange_iff (m : Memory) (t : Transfer) (reading : List Byte) :
    comparisonHits m t .onChange reading = true ↔
      masked reading (maskPart m t) ≠ masked (lastReadPart m t) (maskPart m t) :=
  bne_iff_ne

theorem comparisonHits_onMatch_iff (m : Memory) (t : Transfer) (reading : List Byte) :
    comparisonHits m t .onMatch reading = true ↔
      masked reading (maskPart m t) = masked (referencePart m t) (maskPart m t) :=
  beq_iff_eq

theorem comparisonHits_onDiffer_iff (m : Memory) (t : Transfer) (reading : List Byte) :
    comparisonHits m t .onDiffer reading = true ↔
      masked reading (maskPart m t) ≠ masked (referencePart m t) (maskPart m t) :=
  bne_iff_ne

/-- Settles O53: each mode's comparison of masked sequences, read off byte by byte. -/
theorem watchCompares : Obligations.WatchCompares := by
  intro m t reading hr mask read reference last
  refine ⟨?change, ?isMatch, ?differ⟩
  case change =>
    exact (comparisonHits_onChange_iff m t reading).trans
      (masked_ne_masked_readBytes_iff m hr (t.position + 2 * t.length) (t.position + t.length))
  case isMatch =>
    exact (comparisonHits_onMatch_iff m t reading).trans
      (masked_eq_masked_readBytes_iff m hr t.position (t.position + t.length))
  case differ =>
    exact (comparisonHits_onDiffer_iff m t reading).trans
      (masked_ne_masked_readBytes_iff m hr t.position (t.position + t.length))

end Sys2Proof.Machine

/-! SUPPORT. The Pacer Unit and the Timebase: the pacer commands (R128 to R130), the expiry of a pacer and what it does to the
channels (R132, R133), the tick field by field (R125), and when an interval that a tick has ended is due. -/

namespace Sys2Proof.Machine

/-! ### The pacer commands (R128 to R130) -/

theorem pacerModeOf_eq_some_iff (n : Nat) (mode : PacerMode) : pacerModeOf n = some mode ↔ mode.code = n := by
  constructor
  · intro h
    unfold pacerModeOf at h
    split at h <;> cases h <;> rfl
  · rintro rfl
    cases mode <;> rfl

/-- R128, R191: a code above 1 is no mode. -/
theorem pacerModeOf_above {n : Nat} (h : 1 < n) : pacerModeOf n = none := by
  refine Option.eq_none_iff_forall_ne_some.mpr fun mode hm => ?_
  have hcode := (pacerModeOf_eq_some_iff n mode).mp hm
  cases mode <;> simp only [PacerMode.code] at hcode <;> omega

section PacerCommands
variable {payload : List Byte} {s : State} {n : PacerIx}

theorem settlePcSet_running (hn : at1 payload 0 = n.val) (hr : (s.pacer n).running = true) :
    settlePcSet payload s = refuse s .wrongState := by
  rw [settlePcSet, withPacer_of hn]
  exact if_pos hr

theorem settlePcSet_bad (hn : at1 payload 0 = n.val) (hr : (s.pacer n).running = false)
    (hbad : at2 payload 1 = 0 ∨ 1 < at1 payload 3) : settlePcSet payload s = refuse s .badValue := by
  rw [settlePcSet, withPacer_of hn]
  refine (if_neg (Bool.eq_false_iff.mp hr)).trans ?_
  cases hm : pacerModeOf (at1 payload 3) with
  | none => rfl
  | some mode =>
    rcases hbad with hp | hmode
    · exact if_pos hp
    · cases (pacerModeOf_above hmode).symm.trans hm

theorem settlePcSet_good (hn : at1 payload 0 = n.val) (hr : (s.pacer n).running = false) (hp : at2 payload 1 ≠ 0)
    {mode : PacerMode} (hm : pacerModeOf (at1 payload 3) = some mode) :
    settlePcSet payload s = taken (s.setPacer n { s.pacer n with period := at2 payload 1, mode := mode }) [] := by
  rw [settlePcSet, withPacer_of hn]
  refine (if_neg (Bool.eq_false_iff.mp hr)).trans ?_
  rw [hm]
  exact if_neg hp

theorem settlePcStart_of (hn : at1 payload 0 = n.val) :
    settlePcStart payload s = taken (s.setPacer n (s.pacer n).start) [] := by
  rw [settlePcStart, withPacer_of hn]

theorem settlePcStop_running (hn : at1 payload 0 = n.val) (hr : (s.pacer n).running = true) :
    settlePcStop payload s = taken (s.setPacer n (s.pacer n).stop) [] := by
  rw [settlePcStop, withPacer_of hn, if_pos hr]

theorem settlePcStop_stopped (hn : at1 payload 0 = n.val) (hr : (s.pacer n).running = false) :
    settlePcStop payload s = taken s [] := by
  rw [settlePcStop, withPacer_of hn, if_neg (Bool.eq_false_iff.mp hr)]

end PacerCommands

/-- Settles O29: the mode codes, then each command by whether the pacer runs. -/
theorem pacerCommands : Obligations.PacerCommands := by
  refine ⟨fun n mode => ?modes, fun s f rest n hn => ⟨fun ht => ⟨fun hr => ?running, fun hr hbad => ?bad,
    fun mode hr hp hm => ?set⟩, fun ht => ?start, fun ht => ⟨fun hr => ?stop, fun hr => ?stopped⟩⟩⟩
  case modes =>
    rw [pacerModeOf_eq_some_iff, eq_comm]
    cases mode <;> rfl
  case running => exact refuses_of ht (settlePcSet_running (s := s.takeOldest rest) hn hr)
  case bad => exact refuses_of ht (settlePcSet_bad (s := s.takeOldest rest) hn hr hbad)
  case set => exact answers_of ht (settlePcSet_good (s := s.takeOldest rest) hn hr hp hm)
  case start => exact answers_of ht (settlePcStart_of (s := s.takeOldest rest) hn)
  case stop => exact answers_of ht (settlePcStop_running (s := s.takeOldest rest) hn hr)
  case stopped => exact answers_of ht (settlePcStop_stopped (s := s.takeOldest rest) hn hr)

/-! ### The expiry of a pacer (R132, R133) -/

/-- R132: the expiry count increases; a REPEAT pacer that runs goes on with its period, a SINGLE one stops. -/
theorem Pacer.expire_eq {pc : Pacer} (hr : pc.running = true) : pc.expire =
    { pc with
      expiryCount := min (pc.expiryCount + 1) 65535
      running := decide (pc.mode = .repeat_)
      remaining := if pc.mode = .repeat_ then pc.period else 0
      expiring := false } := by
  obtain ⟨running, period, mode, remaining, expiryCount, expiring⟩ := pc
  subst hr
  cases mode <;> rfl

theorem onPacerExpiry_due {s : State} {n : PacerIx} (hr : (s.pacer n).running = true) (hx : (s.pacer n).expiring = true) :
    s.onPacerExpiry n = allChannels.foldl (expiryVisits n) (s.setPacer n (s.pacer n).expire) :=
  if_pos (Bool.and_eq_true_iff.mpr ⟨hr, hx⟩)

section ExpiryAt
variable {s : State} {c : ChannelIx}

theorem expiryAt_off (h : (s.channel c).state = .off) : s.expiryAt c = s := by
  rw [State.expiryAt, h]

theorem expiryAt_paced (h : (s.channel c).state = .paced) : s.expiryAt c = s.beginPass true c := by
  rw [State.expiryAt, h]

/-- R133: a channel that has not come to wait for its pacer counts an overrun. -/
theorem expiryAt_overrun (h : (s.channel c).state = .running ∨ (s.channel c).state = .halted ∨
    (s.channel c).state = .stopping) : s.expiryAt c = s.overrun c := by
  rcases h with h | h | h <;> rw [State.expiryAt, h]

end ExpiryAt

/-- Settles O31: the pacer by its mode, then a channel by its state. -/
theorem pacerExpires : Obligations.PacerExpires := by
  refine ⟨fun s n ho hr hx => (whenDue_of ho _).trans
      (congrArg Host.Outcome.next ((onPacerExpiry_due hr hx).trans ?_)),
    fun s c => ⟨expiryAt_off, expiryAt_paced, expiryAt_overrun⟩⟩
  rw [Pacer.expire_eq hr]
  rfl

/-! ### The tick, interval by interval (R78, R125, R126, R146) -/

/-- R126: a pacer that runs has one tick less to go; with none left to count its expiry is due. -/
theorem Pacer.tick_eq (pc : Pacer) : pc.tick =
    if pc.running = false then pc
    else if pc.remaining ≤ 1 then { pc with expiring := true }
    else { pc with remaining := pc.remaining - 1 } := by
  cases hr : pc.running <;> simp [Pacer.tick, hr]

/-- R78: without a stretch at the tick the stretch limit counts nothing. -/
theorem Engine.tick_unstretched {e : Engine} {held : Bool}
    (h : held = false ∨ e.transaction = none ∨ e.activity.clocks = false) : e.tick held =
      { e with waitTimer := tickTimer e.waitTimer, cycleTimer := tickTimer e.cycleTimer, stretchTimer := none } := by
  unfold Engine.tick
  cases ht : e.transaction with
  | none => rfl
  | some t =>
    refine if_neg fun hb => ?_
    obtain ⟨hheld, hclocks⟩ := Bool.and_eq_true_iff.mp hb
    rcases h with h | h | h
    · cases hheld.symm.trans h
    · cases ht.symm.trans h
    · cases hclocks.symm.trans h

/-- R78: the first tick of a stretch is the first of the n+1 of its limit. -/
theorem Engine.stretchTick_eq (e : Engine) (t : Transaction) : e.stretchTick t =
    if e.stretchTimer = none then some t.defn.stretchLimit else tickTimer e.stretchTimer := by
  unfold Engine.stretchTick
  cases e.stretchTimer <;> rfl

/-- R78: a clock line held low at the tick counts against the stretch limit, and means that a START waited for has begun. -/
theorem Engine.tick_stretched {e : Engine} {t : Transaction} (ht : e.transaction = some t) (hc : e.activity.clocks = true) :
    e.tick true =
      { e with
        waitTimer := tickTimer e.waitTimer
        cycleTimer := tickTimer e.cycleTimer
        activity := e.startBegun.activity
        stretchTimer := if e.stretchTimer = none then some t.defn.stretchLimit else tickTimer e.stretchTimer } := by
  unfold Engine.tick
  rw [ht, hc, ← stretchTick_eq]
  rfl

theorem heldLow_get (stretched : List Port) (p : Port) : (heldLow stretched).get p = stretched.contains p := by
  cases p <;> rfl

section Tick
variable (s : State) (stretched : List Port)

theorem onTimebaseTick_pacer (n : PacerIx) : (s.onTimebaseTick stretched).pacer n = (s.pacer n).tick := by
  rw [State.pacer, Fin.getElem_fin]
  exact Vector.getElem_map ..

theorem onTimebaseTick_channel (c : ChannelIx) : (s.onTimebaseTick stretched).channel c = (s.channel c).tick := by
  rw [State.channel, Fin.getElem_fin]
  exact Vector.getElem_map ..

theorem onTimebaseTick_engine (p : Port) :
    (s.onTimebaseTick stretched).engine p = (s.engine p).tick (stretched.contains p) :=
  (PerPort.get_zipWith ..).trans (congrArg _ (heldLow_get stretched p))

end Tick

/-! ### When an expiry is due (R125) -/

theorem ranOut_iff (timer : Option Nat) : ranOut timer = true ↔ timer = some 0 := beq_iff_eq

section Due
variable {s : State} {p : Port}

/-- R125: an interval of a port counts on the bus while the port is BUSY with a transaction. -/
theorem busyDue_iff {due : Engine → Bool} {waits : Prop} (h : due (s.engine p) = true ↔ waits) :
    s.busyDue p due = true ↔ s.portState p = .busy ∧ (s.engine p).transaction ≠ none ∧ waits := by
  rw [State.busyDue, Bool.and_eq_true, Bool.and_eq_true, beq_iff_eq, Option.isSome_iff_ne_none, h, and_assoc]

/-- R102, R103: an interval of a recovery counts in the steps that wait for it. -/
theorem recoveryDue_iff {due : Recovery → Option Nat → Bool} {steps : List RecoveryStep}
    (h : ∀ r timer, due r timer = true ↔ r.step ∈ steps ∧ timer = some 0) :
    s.recoveryDue p due = true ↔ s.portState p = .recovering ∧ (s.engine p).waitTimer = some 0
      ∧ ∃ r, (s.engine p).recovery = some r ∧ r.step ∈ steps := by
  simp only [State.recoveryDue, Bool.and_eq_true, beq_iff_eq, Option.any_eq_true, h]
  tauto

theorem Engine.stretchDue_iff (e : Engine) : e.stretchDue = true ↔ e.activity.clocks = true ∧ e.stretchTimer = some 0 := by
  rw [Engine.stretchDue, Bool.and_eq_true, ranOut_iff]

theorem Engine.clockWaitDue_iff (e : Engine) :
    e.clockWaitDue = true ↔ e.activity = .stretchClockWait ∧ e.waitTimer = some 0 := by
  rw [Engine.clockWaitDue, Bool.and_eq_true, beq_iff_eq, ranOut_iff]

theorem phase_cyclePoll_iff (a : Activity) : a.phase = .cyclePoll ↔ a ∈ [Activity.betweenPolls, .pollStart, .poll] := by
  cases a <;> simp [Activity.phase]

theorem Engine.cycleDue_iff (e : Engine) :
    e.cycleDue = true ↔ e.activity ∈ [Activity.betweenPolls, .pollStart, .poll] ∧ e.cycleTimer = some 0 := by
  rw [Engine.cycleDue, Bool.and_eq_true, beq_iff_eq, ranOut_iff, phase_cyclePoll_iff]

theorem Engine.retryDue_iff (e : Engine) : e.retryDue = true ↔ e.activity = .retryGap ∧ e.waitTimer = some 0 := by
  rw [Engine.retryDue, Bool.and_eq_true, beq_iff_eq, ranOut_iff]

theorem Recovery.clockWaitDue_iff (r : Recovery) (timer : Option Nat) :
    r.clockWaitDue timer = true ↔ r.step ∈ [RecoveryStep.clockWait, .stop] ∧ timer = some 0 := by
  rw [Recovery.clockWaitDue, Bool.and_eq_true, ranOut_iff, Bool.or_eq_true, beq_iff_eq, beq_iff_eq, List.mem_pair]

theorem Recovery.gapDue_iff (r : Recovery) (timer : Option Nat) :
    r.gapDue timer = true ↔ r.step ∈ [RecoveryStep.gap] ∧ timer = some 0 := by
  rw [Recovery.gapDue, Bool.and_eq_true, ranOut_iff, beq_iff_eq, List.mem_singleton]

theorem Channel.pauseDue_iff (ch : Channel) :
    ch.pauseDue = true ↔ ch.state = .running ∧ ch.head = .pausing ∧ ch.pauseTimer = some 0 := by
  rw [Channel.pauseDue, Bool.and_eq_true, Bool.and_eq_true, beq_iff_eq, beq_iff_eq, ranOut_iff, and_assoc]

theorem Channel.passGapDue_iff (ch : Channel) :
    ch.passGapDue = true ↔ ch.state = .running ∧ ch.head = .none ∧ ch.passGap = some 0 := by
  rw [Channel.passGapDue, Bool.and_eq_true, Bool.and_eq_true, beq_iff_eq, beq_iff_eq, ranOut_iff, and_assoc]

theorem Link.gapDue_iff (l : Link) : l.gapDue = true ↔ l.gapTimer = some 0 ∧ l.deframer ≠ .hunt := by
  rw [Link.gapDue, Bool.and_eq_true, ranOut_iff, bne_iff_ne]

/-- R125: with no expiry due the part takes the next event. -/
theorem quiet_iff_intervals : s.quiet = true ↔ s.operating = true ∧ ∀ x ∈ s.intervals, s.isDue x = false := by
  simp only [quiet_iff, State.expiries, List.filter_eq_nil_iff, Bool.not_eq_true]

end Due

/-! ### What is due comes before the event (R125) -/

theorem settled_of_operating {s : State} (h : s.operating = true) : s.settled = s.takeDue := if_pos h

/-- R125: a step that is neither an expiry nor a reset cause is the same step once what is due has been taken. -/
theorem exec_takeDue {s : State} {c : Instr} (ho : s.operating = true) (hx : ∀ x : Expiry, c ≠ x.step)
    (hc : ¬isResetCause c) (hq : s.takeDue.quiet = true) : exec c s = exec c s.takeDue := by
  have hset : s.settled = s.takeDue.settled := (settled_of_operating ho).trans (settled_of_quiet hq).symm
  have hop : s.operating = s.takeDue.operating := ho.trans (operating_of_quiet hq).symm
  cases c with
  | powerOnReset | resetNLow | resetNRelease | supplyValid => exact absurd trivial hc
  | pacerExpiry n => exact absurd rfl (hx (.pacer n))
  | pauseExpiry c => exact absurd rfl (hx (.pause c))
  | passGapEnd c => exact absurd rfl (hx (.passGap c))
  | gapExpiry => exact absurd rfl (hx .linkGap)
  | retransmitTimerExpiry number => exact absurd rfl (hx (.retransmit number))
  | stretchTimeout p => exact absurd rfl (hx (.stretch p))
  | stopClockWaitExpiry p => exact absurd rfl (hx (.stopClockWait p))
  | cycleLimitExpiry p begun => exact absurd rfl (hx (.cycleLimit p begun))
  | retryGapEnd p => exact absurd rfl (hx (.retryGap p))
  | recoveryClockWaitExpiry p => exact absurd rfl (hx (.recoveryClockWait p))
  | recoveryGapEnd p => exact absurd rfl (hx (.recoveryGap p))
  | byteComplete p bits ack =>
    change execByteComplete p bits ack s = execByteComplete p bits ack s.takeDue
    rw [execByteComplete, execByteComplete, hset, hop, whenOperating_due ho hq]
  | busConditionFormed p lines =>
    change execBusConditionFormed p lines s = execBusConditionFormed p lines s.takeDue
    rw [execBusConditionFormed, execBusConditionFormed, hset, hop, whenOperating_due ho hq]
  | restartEffect straps lines => exact whenOperating_due ho hq fun u => u.onRestartEffect straps lines
  | receiveCharacter bits stopHigh =>
    exact whenOperating_due ho hq fun u => u.onReceiveCharacter (characterOfBits bits) stopHigh
  | frameEnd takingFirst => exact whenOperating_due ho hq fun u => u.onFrameEnd takingFirst
  | headerReadDone lines => exact whenOperating_due ho hq fun u => u.onHeaderReadDone lines
  | bodyPieceDone lines => exact whenOperating_due ho hq fun u => u.onBodyPieceDone lines
  | timebaseTick stretched => exact whenOperating_due ho hq fun u => u.onTimebaseTick stretched
  | channelCompletion c => exact whenOperating_due ho hq fun u => u.onChannelCompletion c
  | targetAccounting p => exact whenOperating_due ho hq fun u => u.onTargetAccounting p
  | slotAnnouncement n order => exact whenOperating_due ho hq fun u => u.onSlotAnnouncement n order
  | portAnnouncement p order => exact whenOperating_due ho hq fun u => u.onPortAnnouncement p order
  | ticketCompletion number => exact whenOperating_due ho hq fun u => u.onTicketCompletion number
  | grantOccasion p lines => exact whenOperating_due ho hq fun u => u.onGrantOccasion p lines
  | busConflict p => exact whenOperating_due ho hq fun u => u.onBusConflict p
  | stretchEnd p => exact whenOperating_due ho hq fun u => u.onStretchEnd p
  | cyclePollAnswer p ack => exact whenOperating_due ho hq fun u => u.onCyclePollAnswer p ack
  | abortRequest p begun => exact whenOperating_due ho hq fun u => u.onAbortRequest p begun
  | clockWaitEnd p dataHigh => exact whenOperating_due ho hq fun u => u.onClockWaitEnd p dataHigh
  | recoveryPulse p => exact whenOperating_due ho hq fun u => u.onRecoveryPulse p
  | recoveryAttemptEnd p lines => exact whenOperating_due ho hq fun u => u.onRecoveryAttemptEnd p lines
  | _ => exact whenOperating_due ho hq _

/-- Settles O30: the tick field by field, then each expiry by when it is due, and what is due before the next event. -/
theorem tickCounted : Obligations.TickCounted := by
  refine ⟨fun s stretched hq => ⟨s.onTimebaseTick stretched, whenOperating_of hq fun u => u.onTimebaseTick stretched,
      fun n => ?pacer, fun c => onTimebaseTick_channel s stretched c, fun p => ?engine, rfl, ?notices, rfl⟩,
    fun s x ho => ?step, fun s x => expire_of_not_due, fun s p => ?due, fun s => rfl, fun s => rfl,
    fun s c ho hx hc hq => exec_takeDue ho hx hc hq⟩
  case pacer => rw [onTimebaseTick_pacer, Pacer.tick_eq]
  case engine =>
    dsimp only
    rw [onTimebaseTick_engine]
    refine ⟨fun h => Engine.tick_unstretched (h.imp_left fun hp => ?_), fun t hp ht hc => ?_⟩
    · rw [List.contains_eq_mem, decide_eq_false hp]
    · rw [List.contains_eq_mem, decide_eq_true hp]
      exact Engine.tick_stretched ht hc
  case notices =>
    refine congrArg (fun held => { s.out with notices := { s.out.notices with held := held } })
      (List.map_congr_left fun n _ => ?_)
    obtain ⟨number, kind, merges, transmissions, inWindow, timer⟩ := n
    cases timer <;> rfl
  case step => cases x <;> exact whenDue_of ho _
  case due =>
    refine ⟨fun n => Bool.and_eq_true_iff, fun c => Channel.pauseDue_iff _, fun c => Channel.passGapDue_iff _,
      Link.gapDue_iff _, fun number => ?timer, busyDue_iff (Engine.stretchDue_iff _),
      busyDue_iff (Engine.clockWaitDue_iff _), fun begun => busyDue_iff (Engine.cycleDue_iff _),
      busyDue_iff (Engine.retryDue_iff _), recoveryDue_iff Recovery.clockWaitDue_iff,
      recoveryDue_iff Recovery.gapDue_iff, quiet_iff_intervals⟩
    rw [isDue_retransmit_iff]
    refine exists_congr fun n => and_congr_right fun _ => (timerOut_iff number n).trans ?_
    rw [← and_assoc, and_comm (a := n.number = number), and_assoc]

end Sys2Proof.Machine

/-! SUPPORT. Notices along every step (R136, R137, R154, R155), and a claim settled: merged, stored, displacing another notice,
or discarded (R138 to R142). -/

namespace Sys2Proof.Machine

/-! ### The notices along every step (O57) -/

/-- Settles O57, by what every step keeps. -/
theorem noticesKept : Obligations.NoticesKept := fun _ _ h => (Keeps.step h).notices

/-! ### The first of a list that fits, found and removed -/

theorem find?_append_cons {α : Type} {p : α → Bool} {before : List α} (h : ∀ x ∈ before, p x = false) {y : α}
    (hy : p y = true) (after : List α) : (before ++ y :: after).find? p = some y :=
  List.find?_eq_some_iff_append.mpr ⟨hy, before, after, rfl, fun x hx => by rw [h x hx]; rfl⟩

theorem eraseP_append_cons {α : Type} {p : α → Bool} {before : List α} (h : ∀ x ∈ before, p x = false) {y : α}
    (hy : p y = true) (after : List α) : (before ++ y :: after).eraseP p = before ++ after := by
  rw [List.eraseP_append_right _ fun x hx => Bool.eq_false_iff.mp (h x hx), List.eraseP_cons_of_pos hy]

theorem length_lt_of_removed {α : Type} {l before after : List α} {y : α} (h : l = before ++ y :: after) {n : Nat}
    (hl : l.length = n) : (before ++ after).length < n := by
  subst h
  simp only [List.length_append, List.length_cons] at hl ⊢
  omega

/-! ### Places of a notice (R135, R145, R149) -/

/-- R142, R145: the notice is QUEUED and of the class. -/
def Notice.Queued (cls : NoticeClass) (n : Notice) : Prop := n.inWindow = false ∧ n.kind.noticeClass = cls

theorem queuedOf_iff (cls : NoticeClass) (n : Notice) : n.queuedOf cls = true ↔ n.Queued cls := by
  rw [Notice.queuedOf, Bool.and_eq_true, Bool.not_eq_true', beq_iff_eq, Notice.Queued]

theorem queuedOf_eq_false_iff (cls : NoticeClass) (n : Notice) : n.queuedOf cls = false ↔ ¬n.Queued cls := by
  rw [← queuedOf_iff, Bool.not_eq_true]

theorem any_queuedOf_eq_false {held : List Notice} {cls : NoticeClass} (h : ∀ n ∈ held, ¬n.Queued cls) :
    held.any (Notice.queuedOf cls) = false :=
  List.any_eq_false.mpr fun n hn => Bool.eq_false_iff.mp ((queuedOf_eq_false_iff cls n).mpr (h n hn))

theorem any_queuedOf_eq_true {held : List Notice} {cls : NoticeClass} {n : Notice} (hn : n.Queued cls) (hm : n ∈ held) :
    held.any (Notice.queuedOf cls) = true :=
  List.any_eq_true.mpr ⟨n, hm, (queuedOf_iff cls n).mpr hn⟩

theorem isDue_iff (n : Notice) : n.isDue = true ↔ n.inWindow = true ∧ n.timer = .due := by
  rw [Notice.isDue, Bool.and_eq_true, beq_iff_eq]

theorem isDue_eq_false_iff (n : Notice) : n.isDue = false ↔ ¬(n.inWindow = true ∧ n.timer = .due) := by
  rw [← isDue_iff, Bool.not_eq_true]

theorem any_isDue_eq_false {held : List Notice} (h : ∀ n ∈ held, ¬(n.inWindow = true ∧ n.timer = .due)) :
    held.any Notice.isDue = false :=
  List.any_eq_false.mpr fun n hn => Bool.eq_false_iff.mp ((isDue_eq_false_iff n).mpr (h n hn))

theorem inWindowWith_iff (number : Nat) (n : Notice) :
    n.inWindowWith number = true ↔ n.inWindow = true ∧ n.number = number := by
  rw [Notice.inWindowWith, Bool.and_eq_true, beq_iff_eq]

/-! ### Merging (R138, R140) -/

/-- R138: the claims of one subject, kind by kind. -/
theorem subject_eq_watchHit_iff (m : NoticeKind) (t : Bool) (n i : Nat) :
    m.subject = some (.watchHit t n i) ↔ ∃ mode reading, m = .watchHit t n i mode reading := by
  cases m <;> simp [NoticeKind.subject]

theorem subject_eq_paceOverrun_iff (m : NoticeKind) (c : ChannelIx) :
    m.subject = some (.paceOverrun c) ↔ ∃ n, m = .paceOverrun c n := by
  cases m <;> simp [NoticeKind.subject]

theorem subject_eq_halfPass_iff (m : NoticeKind) (c : ChannelIx) :
    m.subject = some (.halfPass c) ↔ ∃ n, m = .halfPass c n := by
  cases m <;> simp [NoticeKind.subject]

theorem subject_eq_passDone_iff (m : NoticeKind) (c : ChannelIx) :
    m.subject = some (.passDone c) ↔ ∃ n, m = .passDone c n := by
  cases m <;> simp [NoticeKind.subject]

theorem subject_eq_inboxOverflow_iff (m : NoticeKind) :
    m.subject = some .inboxOverflow ↔ ∃ n, m = .inboxOverflow n := by
  cases m <;> simp [NoticeKind.subject]

/-- R138: which claims have one subject. -/
theorem sameSubject_iff (k m : NoticeKind) : (k.subject ≠ none ∧ m.subject = k.subject) ↔
    (∃ t n i x y u v, k = .watchHit t n i x y ∧ m = .watchHit t n i u v)
    ∨ (∃ c x y, k = .paceOverrun c x ∧ m = .paceOverrun c y) ∨ (∃ c x y, k = .halfPass c x ∧ m = .halfPass c y)
    ∨ (∃ c x y, k = .passDone c x ∧ m = .passDone c y)
    ∨ (∃ x y, k = .inboxOverflow x ∧ m = .inboxOverflow y) := by
  constructor
  · rintro ⟨hk, hm⟩
    cases hs : k.subject with
    | none => exact absurd hs hk
    | some subject =>
      rw [hs] at hm
      cases subject with
      | watchHit t n i =>
        obtain ⟨x, y, rfl⟩ := (subject_eq_watchHit_iff k t n i).mp hs
        obtain ⟨u, v, rfl⟩ := (subject_eq_watchHit_iff m t n i).mp hm
        exact .inl ⟨t, n, i, x, y, u, v, rfl, rfl⟩
      | paceOverrun c =>
        obtain ⟨x, rfl⟩ := (subject_eq_paceOverrun_iff k c).mp hs
        obtain ⟨y, rfl⟩ := (subject_eq_paceOverrun_iff m c).mp hm
        exact .inr (.inl ⟨c, x, y, rfl, rfl⟩)
      | halfPass c =>
        obtain ⟨x, rfl⟩ := (subject_eq_halfPass_iff k c).mp hs
        obtain ⟨y, rfl⟩ := (subject_eq_halfPass_iff m c).mp hm
        exact .inr (.inr (.inl ⟨c, x, y, rfl, rfl⟩))
      | passDone c =>
        obtain ⟨x, rfl⟩ := (subject_eq_passDone_iff k c).mp hs
        obtain ⟨y, rfl⟩ := (subject_eq_passDone_iff m c).mp hm
        exact .inr (.inr (.inr (.inl ⟨c, x, y, rfl, rfl⟩)))
      | inboxOverflow =>
        obtain ⟨x, rfl⟩ := (subject_eq_inboxOverflow_iff k).mp hs
        obtain ⟨y, rfl⟩ := (subject_eq_inboxOverflow_iff m).mp hm
        exact .inr (.inr (.inr (.inr ⟨x, y, rfl, rfl⟩)))
  · rintro (⟨t, n, i, x, y, u, v, rfl, rfl⟩ | ⟨c, x, y, rfl, rfl⟩ | ⟨c, x, y, rfl, rfl⟩ | ⟨c, x, y, rfl, rfl⟩
      | ⟨x, y, rfl, rfl⟩) <;> exact ⟨nofun, rfl⟩

/-- R140: a claim of this kind merges into the notice. -/
def Notice.Takes (n : Notice) (k : NoticeKind) : Prop :=
  n.inWindow = false ∧ k.subject ≠ none ∧ n.kind.subject = k.subject

theorem mergesWith_iff {k : NoticeKind} {subject : MergeSubject} (h : k.subject = some subject) (n : Notice) :
    n.mergesWith subject = true ↔ n.Takes k := by
  rw [Notice.mergesWith, Bool.and_eq_true, Bool.not_eq_true', beq_iff_eq, Notice.Takes, h]
  exact and_congr_right fun _ => ⟨fun hn => ⟨nofun, hn⟩, fun hn => hn.2⟩

theorem canMerge_iff (held : List Notice) (k : NoticeKind) : canMerge held k = true ↔ ∃ n ∈ held, n.Takes k := by
  unfold canMerge
  split
  · next h => exact ⟨nofun, fun ⟨_, _, _, hk, _⟩ => absurd h hk⟩
  · next subject h => simp only [List.any_eq_true, mergesWith_iff h]

theorem canMerge_eq_false {held : List Notice} {k : NoticeKind} (h : ∀ n ∈ held, ¬n.Takes k) :
    canMerge held k = false :=
  Bool.eq_false_iff.mpr fun hm => let ⟨n, hn, ht⟩ := (canMerge_iff held k).mp hm; h n hn ht

/-- R140: the oldest notice that takes the claim has its fields replaced and its merges counted. -/
theorem mergeInto_append_cons {before after : List Notice} {m : Notice} {k : NoticeKind} (hm : m.Takes k)
    (hb : ∀ x ∈ before, ¬x.Takes k) : mergeInto (before ++ m :: after) k =
      before ++ { m with kind := k, merges := min (m.merges + 1) 255 } :: after := by
  have hk : k.subject ≠ none := hm.2.1
  unfold mergeInto
  split
  · next h => exact absurd h hk
  · next subject h =>
    exact modifyFirst_append_cons _ (fun x hx => Bool.eq_false_iff.mpr fun ht => hb x hx ((mergesWith_iff h x).mp ht))
      ((mergesWith_iff h m).mpr hm) after

/-- R140: a claim that some QUEUED notice takes merges. -/
theorem settle_merges {q : NoticeQueue} {k : NoticeKind} (h : canMerge q.held k = true) :
    q.settle k = { q with
      held := mergeInto q.held k
      counters := { q.counters with created := q.counters.created + 1, merged := q.counters.merged + 1 } } :=
  if_pos h

/-! ### Storing and displacing (R137, R141, R142) -/

section Settles
variable {q : NoticeQueue} {k : NoticeKind}

theorem settle_stores (hm : canMerge q.held k = false) (hl : q.held.length < 24) : q.settle k =
    ({ q with counters := { q.counters with created := q.counters.created + 1 } } : NoticeQueue).store k :=
  (if_neg (Bool.eq_false_iff.mp hm)).trans (if_pos hl)

theorem settle_displaces (hm : canMerge q.held k = false) (hl : q.held.length = 24) {rest : List Notice}
    (hd : displace q.held k.noticeClass = some rest) : q.settle k =
    ({ q with
        held := rest
        counters := { q.counters with created := q.counters.created + 1
                                      discarded := q.counters.discarded + 1 } } : NoticeQueue).store k := by
  refine (if_neg (Bool.eq_false_iff.mp hm)).trans ((if_neg hl.not_lt).trans ?_)
  dsimp only
  rw [hd]
  rfl

theorem settle_discards (hm : canMerge q.held k = false) (hl : q.held.length = 24)
    (hd : displace q.held k.noticeClass = none) : q.settle k =
    { q with counters := { q.counters with created := q.counters.created + 1
                                           discarded := q.counters.discarded + 1 } } := by
  refine (if_neg (Bool.eq_false_iff.mp hm)).trans ((if_neg hl.not_lt).trans ?_)
  dsimp only
  rw [hd]
  rfl

end Settles

/-- R137, R141: a claim is stored at the end, QUEUED, under the first number from the next notice number on that no held
notice has, and ATTN_N is settled. -/
theorem store_first (q : NoticeQueue) (k : NoticeKind) (h : q.held.length < 24) :
    ∃ i n, i ≤ q.held.length ∧ n = (q.nextNumber + i) % 256 ∧ (∀ m ∈ q.held, m.number ≠ n)
      ∧ (∀ j, j < i → ∃ m ∈ q.held, m.number = (q.nextNumber + j) % 256)
      ∧ (let held := q.held ++
            [{ number := n, kind := k, merges := 0, transmissions := 0, inWindow := false, timer := .none }]
        q.store k =
          { held := held, nextNumber := (n + 1) % 256, muted := q.muted, counters := q.counters
            attnLow := held.any (fun m => m.kind.noticeClass == .alarm) }) := by
  have hlen : (q.held.map (·.number)).length < 256 := by
    rw [List.length_map]
    omega
  have hfresh := freshNumber_not_mem q.nextNumber hlen
  obtain ⟨i, hi, heq, hused⟩ := freshNumber_first q.nextNumber hlen
  rw [List.length_map] at hi
  exact ⟨i, freshNumber (q.held.map (·.number)) q.nextNumber, hi, heq,
    fun m hm hn => hfresh (List.mem_map.mpr ⟨m, hm, hn⟩), fun j hj => List.mem_map.mp (hused j hj), rfl⟩

section Displaces
variable {held before after : List Notice} {m : Notice} {cls : NoticeClass}

/-- The oldest QUEUED notice of a class taken out of the held ones. -/
theorem eraseP_queuedOf (hm : m.Queued cls) (hb : ∀ x ∈ before, ¬x.Queued cls) :
    (before ++ m :: after).eraseP (Notice.queuedOf cls) = before ++ after :=
  eraseP_append_cons (fun x hx => (queuedOf_eq_false_iff cls x).mpr (hb x hx)) ((queuedOf_iff cls m).mpr hm) after

/-- R142: a STATUS or ALARM displaces the oldest QUEUED INFO. -/
theorem displace_info (hc : cls ≠ .info) (hm : m.Queued .info) (hb : ∀ x ∈ before, ¬x.Queued .info) :
    displace (before ++ m :: after) cls = some (before ++ after) := by
  have hany : (before ++ m :: after).any (Notice.queuedOf .info) = true := any_queuedOf_eq_true hm (by simp)
  cases cls with
  | info => exact absurd rfl hc
  | status => exact (if_pos hany).trans (congrArg some (eraseP_queuedOf hm hb))
  | alarm => exact (if_pos hany).trans (congrArg some (eraseP_queuedOf hm hb))

/-- R142: an ALARM without a QUEUED INFO displaces the oldest QUEUED STATUS. -/
theorem displace_status (hm : m.Queued .status) (hi : ∀ x ∈ before ++ m :: after, ¬x.Queued .info)
    (hb : ∀ x ∈ before, ¬x.Queued .status) :
    displace (before ++ m :: after) .alarm = some (before ++ after) := by
  have hany : (before ++ m :: after).any (Notice.queuedOf .status) = true := any_queuedOf_eq_true hm (by simp)
  calc displace (before ++ m :: after) .alarm
      = if (before ++ m :: after).any (Notice.queuedOf .status) then
          some ((before ++ m :: after).eraseP (Notice.queuedOf .status)) else none :=
        if_neg (Bool.eq_false_iff.mp (any_queuedOf_eq_false hi))
    _ = some (before ++ after) := by rw [if_pos hany, eraseP_queuedOf hm hb]

/-- R142: any other claim displaces none. -/
theorem displace_none (h : cls = .info
    ∨ (cls = .status ∧ ∀ x ∈ held, ¬x.Queued .info)
    ∨ (∀ x ∈ held, ¬x.Queued .info ∧ ¬x.Queued .status)) : displace held cls = none := by
  have status (hi : ∀ x ∈ held, ¬x.Queued .info) : displace held .status = none :=
    if_neg (Bool.eq_false_iff.mp (any_queuedOf_eq_false hi))
  rcases h with rfl | ⟨rfl, hi⟩ | h
  · rfl
  · exact status hi
  · have hi := any_queuedOf_eq_false fun x hx => (h x hx).1
    have hs := any_queuedOf_eq_false fun x hx => (h x hx).2
    cases cls with
    | info => rfl
    | status => exact status fun x hx => (h x hx).1
    | alarm => exact (if_neg (Bool.eq_false_iff.mp hi)).trans (if_neg (Bool.eq_false_iff.mp hs))

end Displaces

/-- Settles O36: a claim merged, stored, displacing or discarded; then the subjects, and what a block's claim is. -/
theorem claimSettled : Obligations.ClaimSettled := by
  refine ⟨fun q k => ⟨fun before m after hq hm hb => ?merged, fun hnone => ?other⟩, sameSubject_iff, fun o k => rfl,
    fun s k => ⟨rfl, rfl, rfl⟩⟩
  case merged =>
    have hcan : canMerge q.held k = true := (canMerge_iff q.held k).mpr ⟨m, by simp [hq], hm⟩
    rw [settle_merges hcan, hq, mergeInto_append_cons hm hb]
  case other =>
    have hcan : canMerge q.held k = false := canMerge_eq_false hnone
    refine ⟨fun hl => ?stored, fun hl => ⟨fun before m after hq hc hm hb => ?info,
      fun before m after hq hc hm hi hb => ?status, fun h => settle_discards hcan hl (displace_none h)⟩⟩
    case stored =>
      rw [settle_stores hcan hl]
      exact store_first { q with counters := { q.counters with created := q.counters.created + 1 } } k hl
    case info =>
      rw [settle_displaces hcan hl (rest := before ++ after) (hq ▸ displace_info hc hm hb)]
      exact store_first { q with held := before ++ after, counters := _ } k (length_lt_of_removed hq hl)
    case status =>
      rw [hq] at hi
      rw [settle_displaces hcan hl (rest := before ++ after) (by rw [hc, hq]; exact displace_status hm hi hb)]
      exact store_first { q with held := before ++ after, counters := _ } k (length_lt_of_removed hq hl)

end Sys2Proof.Machine

/-! SUPPORT. The transmitter's choice (R145) and what leads to it: the end of a frame, a retransmit timer that has run out, an
acknowledgement, and the end of MUTE (R144 to R153). -/

namespace Sys2Proof.Machine

/-! ### The transmitter's choice (R145 to R148) -/

section Choice
variable {o : Outbound} (hs : o.sending = none) (hr : o.restart ≠ .replyGone) (ht : o.takingNext = false)
include hs hr ht

/-- R145 item 1: an idle transmitter that waits for nothing sends the reply that waits. -/
theorem choose_pending {r : Reply} (hp : o.reply = .pending r) : o.choose =
    { o with reply := .sending r, sending := some { source := .reply, bytes := r.frame } } := by
  simp [Outbound.choose, hs, hr, ht, hp]

variable (hp : ∀ r, o.reply ≠ .pending r)
include hp

/-- R145: with no reply waiting an idle transmitter looks at the notices alone. -/
theorem choose_notices : o.choose =
    if o.notices.muted then o
    else if o.notices.held.any Notice.isDue then o.sendNotice Notice.isDue true
    else if windowCount o.notices.held < 4 then
      o.sendNotice (Notice.queuedOf (nextQueuedClass o.notices.held)) false
    else o := by
  cases hreply : o.reply with
  | pending r => exact absurd hreply (hp r)
  | empty => simp [Outbound.choose, hs, hr, ht, hreply]
  | sending r => simp [Outbound.choose, hs, hr, ht, hreply]

/-- R145, R152: in MUTE no notice is sent. -/
theorem choose_muted (hm : o.notices.muted = true) : o.choose = o := by
  rw [choose_notices hs hr ht hp, if_pos hm]

variable (hm : o.notices.muted = false)
include hm

theorem choose_due (hd : ∃ m ∈ o.notices.held, m.isDue = true) : o.choose = o.sendNotice Notice.isDue true := by
  rw [choose_notices hs hr ht hp, if_neg (Bool.eq_false_iff.mp hm), if_pos (List.any_eq_true.mpr hd)]

variable (hd : ∀ m ∈ o.notices.held, ¬(m.inWindow = true ∧ m.timer = .due))
include hd

theorem choose_queued (hw : windowCount o.notices.held < 4) :
    o.choose = o.sendNotice (Notice.queuedOf (nextQueuedClass o.notices.held)) false := by
  have hnone := Bool.eq_false_iff.mp (any_isDue_eq_false hd)
  rw [choose_notices hs hr ht hp, if_neg (Bool.eq_false_iff.mp hm), if_neg hnone, if_pos hw]

/-- R145 item 3: with 4 in WINDOW and none due no notice is sent. -/
theorem choose_full (hw : 4 ≤ windowCount o.notices.held) : o.choose = o := by
  have hnone := Bool.eq_false_iff.mp (any_isDue_eq_false hd)
  rw [choose_notices hs hr ht hp, if_neg (Bool.eq_false_iff.mp hm), if_neg hnone, if_neg hw.not_gt]

/-- R145: with none due and none QUEUED no notice is sent. -/
theorem choose_noneQueued (hq : ∀ m ∈ o.notices.held, m.inWindow = true) : o.choose = o := by
  rcases Nat.lt_or_ge (windowCount o.notices.held) 4 with hw | hw
  · have hfind : o.notices.held.find? (Notice.queuedOf (nextQueuedClass o.notices.held)) = none :=
      List.find?_eq_none.mpr fun m hmem hqueued =>
        Bool.false_ne_true (((queuedOf_iff _ m).mp hqueued).1.symm.trans (hq m hmem))
    rw [choose_queued hs hr ht hp hm hd hw, Outbound.sendNotice, hfind]
  · exact choose_full hs hr ht hp hm hd hw

end Choice

/-- R145 item 3: the class that is sent next is that of a QUEUED notice than which none held is higher. -/
theorem nextQueuedClass_eq {held : List Notice} {n : Notice} (hn : n ∈ held) (hq : n.inWindow = false)
    (hbest : ∀ m ∈ held, m.inWindow = false → n.kind.noticeClass.code ≤ m.kind.noticeClass.code) :
    nextQueuedClass held = n.kind.noticeClass := by
  have none_above (cls : NoticeClass) (hc : cls.code < n.kind.noticeClass.code) :
      ¬held.any (Notice.queuedOf cls) = true := by
    refine Bool.eq_false_iff.mp (any_queuedOf_eq_false fun m hm ⟨hw, he⟩ => ?_)
    have := hbest m hm hw
    rw [he] at this
    omega
  have held_of (cls : NoticeClass) (hc : n.kind.noticeClass = cls) : held.any (Notice.queuedOf cls) = true :=
    any_queuedOf_eq_true ⟨hq, hc⟩ hn
  unfold nextQueuedClass
  cases hc : n.kind.noticeClass with
  | alarm => rw [if_pos (held_of .alarm hc)]
  | status => rw [if_neg (none_above .alarm (by rw [hc]; decide)), if_pos (held_of .status hc)]
  | info =>
    rw [if_neg (none_above .alarm (by rw [hc]; decide)), if_neg (none_above .status (by rw [hc]; decide))]

/-- Settles O38: the bytes of a notice's frame, kind by kind; then when no choice is made, and each choice made. -/
theorem transmitterChooses : Obligations.TransmitterChooses := by
  refine ⟨fun n stamp => rfl, rfl, fun c pos r sl att => ⟨⟨rfl, rfl, rfl⟩, ⟨rfl, rfl, rfl⟩, rfl, rfl, rfl⟩,
    fun p n => ⟨⟨rfl, rfl, rfl⟩, rfl, rfl, rfl⟩, fun o n i st => ⟨rfl, by cases o <;> rfl, rfl⟩, rfl,
    fun n r moved => ⟨rfl, rfl, rfl⟩, fun t n i m reading => ⟨rfl, rfl, rfl⟩,
    fun c n => ⟨⟨rfl, rfl, rfl⟩, ⟨rfl, rfl, rfl⟩, ⟨rfl, rfl, rfl⟩, rfl, rfl, rfl⟩, fun o h => choose_waits h,
    fun o hs hr ht => ⟨fun r hp => choose_pending hs hr ht hp, fun hp => ⟨choose_muted hs hr ht hp,
      fun hm before n after hh => ⟨fun hw htm hb => ?again, fun hw hd hroom hbest hb => ?first⟩,
      fun hm hd h => h.elim (choose_full hs hr ht hp hm hd) (choose_noneQueued hs hr ht hp hm hd)⟩⟩⟩
  case again =>
    have hdue : n.isDue = true := (isDue_iff n).mpr ⟨hw, htm⟩
    have hbefore : ∀ m ∈ before, m.isDue = false := fun m hmem => (isDue_eq_false_iff m).mpr (hb m hmem)
    rw [choose_due hs hr ht hp hm ⟨n, by simp [hh], hdue⟩, sendNotice_at hh hdue hbefore]
    simp only [Notice.sent, hw, discardedStamp, if_true]
  case first =>
    have hclass : nextQueuedClass o.notices.held = n.kind.noticeClass :=
      nextQueuedClass_eq (by simp [hh]) hw hbest
    have hbefore : ∀ m ∈ before, m.queuedOf n.kind.noticeClass = false :=
      fun m hmem => (queuedOf_eq_false_iff _ m).mpr fun ⟨hmw, hmc⟩ => hb m hmem hmw hmc
    rw [choose_queued hs hr ht hp hm hd hroom, hclass, sendNotice_at hh ((queuedOf_iff _ n).mpr ⟨hw, rfl⟩) hbefore]
    rfl

/-! ### The end of a frame (R144, R146, R168, R176) -/

section FrameEnd
variable {o : Outbound} {x : Sending} (hx : o.sending = some x)
include hx

theorem frameEnd_restart (hsrc : x.source = .reply) (hr : o.restart = .executed) (first : Bool) :
    o.frameEnd first = { o with sending := none, reply := .empty, restart := .replyGone } := by
  simp [Outbound.frameEnd, hx, hsrc, hr]

theorem frameEnd_takingFirst (hsrc : x.source = .reply) (hr : o.restart ≠ .executed) :
    o.frameEnd true = { o with sending := none, reply := .empty, takingNext := true } := by
  simp [Outbound.frameEnd, hx, hsrc, hr]

theorem frameEnd_reply (hsrc : x.source = .reply) (hr : o.restart ≠ .executed) :
    o.frameEnd false = ({ o with sending := none, reply := .empty } : Outbound).choose := by
  simp [Outbound.frameEnd, hx, hsrc, hr]

theorem frameEnd_notice {n : Nat} (hsrc : x.source = .notice n) (first : Bool) : o.frameEnd first =
    ({ o with
      sending := none
      notices := { o.notices with
        held := modifyFirst (Notice.awaitsTimer n) Notice.startTimer o.notices.held } } : Outbound).choose := by
  simp [Outbound.frameEnd, hx, hsrc]

end FrameEnd

/-- Settles O37: the end of a reply by what follows it, and the end of a notice's frame. -/
theorem frameEnds : Obligations.FrameEnds := by
  refine fun s first x hq hx => ?_
  have taken : exec (.frameEnd first) s =
      .next { s with out := s.out.frameEnd (first && !s.link.inbox.isEmpty) } :=
    whenOperating_of hq fun u => u.onFrameEnd first
  rw [taken]
  refine ⟨fun hsrc => ⟨fun hr => ?restart, fun hr hf hi => ?taking, fun hr hf => ?reply⟩, fun n hsrc => ?notice⟩
  case restart => rw [frameEnd_restart hx hsrc hr]
  case taking =>
    have hfirst : (first && !s.link.inbox.isEmpty) = true := by simp [hf, hi]
    rw [hfirst, frameEnd_takingFirst hx hsrc hr]
  case reply =>
    have hfirst : (first && !s.link.inbox.isEmpty) = false := by rcases hf with hf | hf <;> simp [hf]
    rw [hfirst, frameEnd_reply hx hsrc hr]
  case notice =>
    rw [frameEnd_notice hx hsrc]
    rfl

/-! ### A retransmit timer that has run out (R147, R151) -/

/-- R147, R151: the notice becomes due, or after its last transmission an OPEN link enters MUTE. -/
theorem timerExpiry_at {q : NoticeQueue} {before after : List Notice} {n : Notice}
    (hh : q.held = before ++ n :: after) (hn : n.timerOut n.number = true)
    (hb : ∀ m ∈ before, m.timerOut n.number = false) : q.timerExpiry n.number =
      (let expired := { q with held := before ++ n.afterTimer :: after }
      if 4 ≤ n.transmissions ∧ q.muted = false then
        { expired with
          muted := true
          counters := { q.counters with muteEntries := q.counters.muteEntries + 1 } }
      else expired) := by
  unfold NoticeQueue.timerExpiry
  rw [hh, find?_append_cons hb hn, modifyFirst_append_cons _ hb hn]

/-- Settles O39: the notice that has run out by its transmissions, and then by whether the link is OPEN. -/
theorem retransmitTimerExpires : Obligations.RetransmitTimerExpires := by
  intro s before after n ho hh hw htm hb
  have hn : n.timerOut n.number = true := (timerOut_iff _ n).mpr ⟨rfl, hw, htm⟩
  have hbefore : ∀ m ∈ before, m.timerOut n.number = false := fun m hm =>
    Bool.eq_false_iff.mpr fun hout => hb m hm ((timerOut_iff _ m).mp hout).1
  have hdue : s.out.notices.timerDue n.number = true := List.any_eq_true.mpr ⟨n, by simp [hh], hn⟩
  have taken : exec (.retransmitTimerExpiry n.number) s = .next
      { s with out := ({ s.out with notices := s.out.notices.timerExpiry n.number } : Outbound).choose } :=
    (whenDue_of ho _).trans (congrArg Host.Outcome.next (if_pos hdue))
  rw [taken, timerExpiry_at hh hn hbefore]
  refine ⟨fun hlt => ?due, fun hle => ?last⟩
  case due =>
    have hafter : n.afterTimer = { n with timer := .due } :=
      congrArg (fun timer => { n with timer := timer }) (if_neg hlt.not_ge)
    dsimp only
    rw [if_neg fun h => hlt.not_ge h.1, hafter]
  case last =>
    have hafter : n.afterTimer = { n with timer := .none } :=
      congrArg (fun timer => { n with timer := timer }) (if_pos hle)
    dsimp only
    rw [hafter]
    cases hm : s.out.notices.muted with
    | true => rw [if_neg (fun h => Bool.false_ne_true h.2.symm), if_pos rfl, ← hm]
    | false => rw [if_pos ⟨hle, rfl⟩, if_neg Bool.false_ne_true]

/-! ### A frame taken, an acknowledgement, the end of MUTE (R149, R153, R163) -/

/-- R163: the oldest complete frame is taken by the step that its checks name. -/
theorem takeFrame_of {s : State} {frame : RxFrame} {rest : List RxFrame} {outcome : FrameCheck}
    (hr : s.link.received = frame :: rest) (hc : frame.check = outcome) (f : RxFrame → State → State) :
    takeFrame outcome s f = f frame { s with link := { s.link with received := rest } } := by
  unfold takeFrame
  rw [hr]
  exact if_pos hc

/-- R149: the WINDOW notice with the number is retired. -/
theorem acknowledge_held {q : NoticeQueue} {number : Nat} (h : ∃ n ∈ q.held, n.inWindow = true ∧ n.number = number) :
    q.acknowledge number = { q with
      held := q.held.eraseP (Notice.inWindowWith number)
      attnLow := attnLevel (q.held.eraseP (Notice.inWindowWith number))
      counters := { q.counters with acknowledged := q.counters.acknowledged + 1 } } :=
  if_pos (by simpa only [List.any_eq_true, inWindowWith_iff] using h)

/-- R149: with no such notice the acknowledgement is stray. -/
theorem acknowledge_stray {q : NoticeQueue} {number : Nat}
    (h : ¬∃ n ∈ q.held, n.inWindow = true ∧ n.number = number) :
    q.acknowledge number = { q with counters := { q.counters with strayAcks := q.counters.strayAcks + 1 } } :=
  if_neg (by simpa only [List.any_eq_true, inWindowWith_iff] using h)

/-- An acknowledgement neither begins nor ends MUTE (R149). -/
theorem acknowledge_muted (q : NoticeQueue) (number : Nat) : (q.acknowledge number).muted = q.muted := by
  unfold NoticeQueue.acknowledge
  split <;> rfl

theorem heard_of_open {q : NoticeQueue} (h : q.muted = false) : q.heard = q := if_neg (Bool.eq_false_iff.mp h)

/-- R153: at the end of MUTE every WINDOW notice starts its transmissions anew. -/
theorem heard_of_muted {q : NoticeQueue} (h : q.muted = true) :
    q.heard = { q with muted := false, held := q.held.map Notice.afterMute } := if_pos h

section Frames
variable {s : State} {f : RxFrame} {rest : List RxFrame} (hq : s.quiet = true) (hr : s.link.received = f :: rest)
include hq hr

/-- NOTICE_ACK: the acknowledgement is counted and taken, then MUTE ends, then the transmitter chooses (R149, R153). -/
theorem exec_noticeAck_of (hc : f.check = .noticeAck) : exec .noticeAck s = .next { s with
    link := { s.link with
      received := rest
      counters := { s.link.counters with acknowledgements := min (s.link.counters.acknowledgements + 1) 65535 } }
    out := ({ s.out with notices := (s.out.notices.acknowledge (at1 f.body 1)).heard } : Outbound).choose } :=
  (whenOperating_of hq State.onNoticeAck).trans (congrArg Host.Outcome.next (takeFrame_of hr hc _))

/-- COMMAND_FRAME in MUTE: MUTE ends, the transmitter chooses, then the inbox is offered the frame (R153, R164). -/
theorem exec_commandFrame_muted (hc : f.check = .command) (hm : s.out.notices.muted = true) :
    exec .commandFrame s = .next (({ s with
      link := { s.link with received := rest }
      out := ({ s.out with notices := s.out.notices.heard } : Outbound).choose } : State).offerFrame f.command) :=
  (whenOperating_of hq State.onCommandFrame).trans (congrArg Host.Outcome.next
    ((takeFrame_of hr hc _).trans (congrArg (State.offerFrame · f.command) (if_pos hm))))

end Frames

/-- R164: an inbox with room takes the frame. -/
theorem offerFrame_room {s : State} (h : s.link.inbox.length < 4) (frame : CommandFrame) : s.offerFrame frame =
    { s with
      link := { s.link with
        inbox := s.link.inbox ++ [frame]
        counters := { s.link.counters with commandFrames := min (s.link.counters.commandFrames + 1) 65535 } } } :=
  if_pos h

/-- R164: a full inbox drops the frame, counts it, and INBOX_OVERFLOW is claimed. -/
theorem offerFrame_full {s : State} (h : 4 ≤ s.link.inbox.length) (frame : CommandFrame) : s.offerFrame frame =
    { s with
      link := { s.link with
        counters := { s.link.counters with
          commandFrames := min (s.link.counters.commandFrames + 1) 65535
          inboxOverruns := min (s.link.counters.inboxOverruns + 1) 65535 } }
      out := s.out.claim (.inboxOverflow (min (s.link.counters.inboxOverruns + 1) 65535)) } :=
  if_neg h.not_gt

/-- Settles O9: a WINDOW notice retired, or a stray acknowledgement, on an OPEN link. -/
theorem noticeAcknowledged : Obligations.NoticeAcknowledged := by
  intro s f rest hq hr hc hm
  have hopen : (s.out.notices.acknowledge (at1 f.body 1)).muted = false := (acknowledge_muted _ _).trans hm
  rw [exec_noticeAck_of hq hr hc, heard_of_open hopen]
  refine ⟨fun h => ?_, fun h => ?_⟩
  · rw [acknowledge_held h]
    rfl
  · rw [acknowledge_stray h]

/-- Settles O10: MUTE ends by a command frame that the inbox takes or drops, or by an acknowledgement. -/
theorem acceptedFrameEndsMute : Obligations.AcceptedFrameEndsMute := by
  intro s f rest hq hr hm
  refine ⟨fun hc hroom => ?taken, fun hc hfull => ?dropped, fun hc => ?acknowledged⟩
  case taken =>
    rw [exec_commandFrame_muted hq hr hc hm, offerFrame_room (by exact hroom), heard_of_muted hm]
    rfl
  case dropped =>
    rw [exec_commandFrame_muted hq hr hc hm, offerFrame_full (by exact hfull), heard_of_muted hm]
    rfl
  case acknowledged =>
    rw [exec_noticeAck_of hq hr hc, heard_of_muted ((acknowledge_muted _ _).trans hm)]
    rfl

end Sys2Proof.Machine

/-! SUPPORT. The receiving side of the control link (R157, R160 to R165): the bits of a character, the deframer's course, and
what becomes of a complete frame that is no acknowledgement. -/

namespace Sys2Proof.Machine

/-! ### The bits of a character (R157) -/

/-- Any eight bits are those of a character. -/
theorem exists_dataBitsOf {bits : List Bool} (h : bits.length = 8) : ∃ char, bits = dataBitsOf char := by
  refine ⟨(BitVec.ofBoolListLE bits).cast h, List.ext_getElem (by simp [h]) fun i hi _ => ?_⟩
  simp [dataBitsOf, BitVec.getLsbD_ofBoolListLE, hi]

/-- The straps set the rate. -/
theorem baudRateOf_eq (straps : Straps) : baudRateOf straps =
    if straps.baud1 then (if straps.baud0 then 3000000 else 1000000) else if straps.baud0 then 460800 else 115200 := by
  unfold baudRateOf
  cases straps.baud1 <;> cases straps.baud0 <;> rfl

/-! ### The deframer's course (R160 to R162) -/

section Deframer
variable {l : Link}

theorem takeCharacter_hunt (hd : l.deframer = .hunt) (char : Byte) :
    l.takeCharacter char = if char = 0xC5 then l.await .length else l := by
  rw [Link.takeCharacter, hd]

theorem takeCharacter_length (hd : l.deframer = .length) {char : Byte} (hlo : 3 ≤ char.toNat) (hhi : char.toNat ≤ 250) :
    l.takeCharacter char = l.await (.body char.toNat []) := by
  rw [Link.takeCharacter, hd]
  exact if_pos ⟨hlo, hhi⟩

theorem takeCharacter_badLength (hd : l.deframer = .length) {char : Byte} (h : char.toNat < 3 ∨ 250 < char.toNat) :
    l.takeCharacter char = l.toHunt.countBadFrame := by
  rw [Link.takeCharacter, hd]
  exact if_neg fun ⟨hlo, hhi⟩ => h.elim hlo.not_gt hhi.not_gt

theorem takeCharacter_body {len : Nat} {got : List Byte} (hd : l.deframer = .body len got) (char : Byte) :
    l.takeCharacter char =
      l.await (if got.length + 1 < len then .body len (got ++ [char]) else .crcLow (got ++ [char])) := by
  rw [Link.takeCharacter, hd]
  dsimp only
  rw [List.length_append, List.length_singleton]
  by_cases h : got.length + 1 < len
  · rw [if_pos h, if_neg h.not_ge]
  · rw [if_neg h, if_pos (Nat.not_lt.mp h)]

theorem takeCharacter_crcLow {got : List Byte} (hd : l.deframer = .crcLow got) (char : Byte) :
    l.takeCharacter char = l.await (.crcHigh got char) := by
  rw [Link.takeCharacter, hd]

theorem takeCharacter_crcHigh {got : List Byte} {low : Byte} (hd : l.deframer = .crcHigh got low) (char : Byte) :
    l.takeCharacter char =
      { l.toHunt with received := l.received ++ [{ body := got, crc := char ++ low }] } := by
  rw [Link.takeCharacter, hd]

end Deframer

/-- RECEIVE_CHARACTER with a high stop bit: the deframer takes the character, and only the link changes. -/
theorem exec_receiveCharacter_of {s : State} (hq : s.quiet = true) (char : Byte) {l : Link}
    (hl : s.link.takeCharacter char = l) :
    exec (.receiveCharacter (dataBitsOf char) true) s = .next { s with link := l } := by
  refine (whenOperating_of hq fun u => u.onReceiveCharacter (characterOfBits (dataBitsOf char)) true).trans ?_
  rw [characterOfBits_dataBitsOf, State.onReceiveCharacter, if_pos rfl, hl]

/-- With a low stop bit the character is an error. -/
theorem exec_receiveCharacter_error {s : State} (hq : s.quiet = true) (bits : List Bool) {l : Link}
    (hl : s.link.characterError = l) : exec (.receiveCharacter bits false) s = .next { s with link := l } := by
  refine (whenOperating_of hq fun u => u.onReceiveCharacter (characterOfBits bits) false).trans ?_
  rw [State.onReceiveCharacter, if_neg Bool.false_ne_true, hl]

/-- Settles O6: the bits, LTX and the rate; then a character by the state of the deframer, and a low stop bit. -/
theorem characterReceived : Obligations.CharacterReceived := by
  refine ⟨fun _ => exists_dataBitsOf, fun _ => ltx_idle, fun _ _ => ltx_sending, fun s => baudRateOf_eq s.straps, ?_⟩
  rintro s char _ hq rfl
  have heard {l : Link} : s.link.takeCharacter char = l →
      exec (.receiveCharacter (dataBitsOf char) true) s = .next { s with link := l } :=
    exec_receiveCharacter_of hq char
  have failed {l : Link} : s.link.characterError = l →
      exec (.receiveCharacter (dataBitsOf char) false) s = .next { s with link := l } :=
    exec_receiveCharacter_error hq _
  refine ⟨fun hd => ?hunt, fun hd hlo hhi => heard (takeCharacter_length hd hlo hhi),
    fun hd hbad => heard (takeCharacter_badLength hd hbad), fun len got hd => heard (takeCharacter_body hd char),
    fun got hd => heard (takeCharacter_crcLow hd char), fun got low hd => heard (takeCharacter_crcHigh hd char),
    fun hd => failed (if_pos hd), fun hd => failed (if_neg hd)⟩
  case hunt =>
    refine (heard (takeCharacter_hunt hd char)).trans ?_
    split <;> rfl

/-! ### The checks of a complete frame (R159, R161, R163) -/

theorem crcMatches_iff (f : RxFrame) :
    f.crcMatches = true ↔ crc16 (BitVec.ofNat 8 f.body.length :: f.body) = f.crc := beq_iff_eq

/-- R163: the CRC is checked first, then the class, and the length of an acknowledgement. -/
theorem check_eq (f : RxFrame) : f.check =
    if crc16 (BitVec.ofNat 8 f.body.length :: f.body) ≠ f.crc then .crcError
    else if at1 f.body 0 = 0x01 then .command
    else if at1 f.body 0 = 0x04 ∧ f.body.length = 3 then .noticeAck else .badFrame := by
  unfold RxFrame.check
  refine if_congr ?_ rfl rfl
  rw [Bool.not_eq_true', Bool.eq_false_iff, Ne, crcMatches_iff]

/-- Settles O7: the outcome of the checks, then the three discards. -/
theorem frameDiscarded : Obligations.FrameDiscarded := by
  refine ⟨check_eq, fun s ho ht hd => ?gap, fun s f rest hq hr hcrc => ?crc, fun s f rest hq hr hcrc hcmd hack => ?bad⟩
  case gap =>
    have hdue : s.link.gapDue = true := by simp [Link.gapDue, ranOut, ht, hd]
    exact (whenDue_of ho .linkGap).trans (congrArg Host.Outcome.next (if_pos hdue))
  case crc =>
    have hc : f.check = .crcError := (check_eq f).trans (if_pos hcrc)
    exact (whenOperating_of hq State.onCrcError).trans (congrArg Host.Outcome.next (takeFrame_of hr hc _))
  case bad =>
    have hc : f.check = .badFrame := by
      rw [check_eq, if_neg (not_not_intro hcrc), if_neg hcmd, if_neg hack]
    exact (whenOperating_of hq State.onBadFrame).trans (congrArg Host.Outcome.next (takeFrame_of hr hc _))

/-! ### A command frame on an OPEN link (R164) -/

/-- COMMAND_FRAME while the link is OPEN: the inbox is offered the frame, and no choice is made before that. -/
theorem exec_commandFrame_open {s : State} {f : RxFrame} {rest : List RxFrame} (hq : s.quiet = true)
    (hr : s.link.received = f :: rest) (hc : f.check = .command) (hm : s.out.notices.muted = false) :
    exec .commandFrame s =
      .next (({ s with link := { s.link with received := rest } } : State).offerFrame f.command) :=
  (whenOperating_of hq State.onCommandFrame).trans (congrArg Host.Outcome.next
    ((takeFrame_of hr hc _).trans (congrArg (State.offerFrame · f.command) (if_neg (Bool.eq_false_iff.mp hm)))))

/-- Settles O8: an inbox with room, and one that is full. -/
theorem commandFrameOffered : Obligations.CommandFrameOffered := by
  intro s f rest hq hr hc hm
  rw [exec_commandFrame_open hq hr hc hm]
  refine ⟨fun hroom => ?_, fun hfull => ?_⟩
  · rw [offerFrame_room (by exact hroom)]
    rfl
  · rw [offerFrame_full (by exact hfull)]

end Sys2Proof.Machine

/-! SUPPORT. Expiries and RESTART (R176): what a tick has ended leaves the stage of RESTART as it is, since on the sending side an
expiry makes claims and lets the transmitter choose, and does nothing else there. -/

namespace Sys2Proof.Machine

/-! ### Claims -/

@[simp] theorem claim_restart (s : State) (k : NoticeKind) : (s.claim k).out.restart = s.out.restart := choose_restart _

@[simp] theorem claimIf_restart (s : State) (b : Bool) (k : NoticeKind) :
    (s.claimIf b k).out.restart = s.out.restart := by
  cases b
  · rfl
  · exact claim_restart s k

/-! ### The service of a head (R15 to R23, R133) -/

section Heads
variable (s : State) (c : ChannelIx)

@[simp] theorem haltChannel_restart (r : Record) : (s.haltChannel c r).out.restart = s.out.restart := claim_restart _ _

@[simp] theorem endPass_restart : (s.endPass c).out.restart = s.out.restart := claimIf_restart _ _ _

@[simp] theorem finishHead_restart : (s.finishHead c).out.restart = s.out.restart := by
  unfold State.finishHead
  dsimp only
  split
  · exact (endPass_restart _ c).trans (claimIf_restart _ _ _)
  · exact claimIf_restart _ _ _

@[simp] theorem afterPass_restart : (s.afterPass c).out.restart = s.out.restart := by
  unfold State.afterPass
  dsimp only
  split <;> rfl

@[simp] theorem offerHead_restart (p : Port) : (s.offerHead c p).out.restart = s.out.restart := by
  unfold State.offerHead
  split
  · rfl
  · obtain ⟨arb, h⟩ := raiseOccasionIfIdle_touches (s.setChannel c { s.channel c with head := .candidate p }) p
    rw [h]
    rfl

@[simp] theorem evaluateHead_restart (inTick : Bool) (fuel : Nat) :
    (evaluateHead inTick c fuel s).out.restart = s.out.restart := by
  induction fuel generalizing s with
  | zero => rfl
  | succ fuel ih =>
    unfold Machine.evaluateHead
    split
    · rfl
    · split
      · rfl
      · rfl
      · exact offerHead_restart s c _
      · next r _ =>
        have hskip (t : State) (rec_ : Record) : ((t.claimDescFailed c rec_).finishHead c).out.restart = t.out.restart :=
          (finishHead_restart _ c).trans (claimIf_restart _ _ _)
        dsimp only
        split
        · exact haltChannel_restart _ c _
        · split
          · exact (afterPass_restart _ c).trans (hskip _ _)
          · exact (ih _).trans (hskip _ _)

@[simp] theorem serveHead_restart (inTick : Bool) : (s.serveHead inTick c).out.restart = s.out.restart :=
  evaluateHead_restart s c inTick _

@[simp] theorem beginPass_restart (inTick : Bool) : (s.beginPass inTick c).out.restart = s.out.restart :=
  serveHead_restart _ c inTick

@[simp] theorem finishAndGoOn_restart (inTick : Bool) : (s.finishAndGoOn inTick c).out.restart = s.out.restart := by
  unfold State.finishAndGoOn
  dsimp only
  split <;> simp

@[simp] theorem takeRunning_restart (inTick : Bool) (r : Record) (o : Option WatchOutcome) :
    (s.takeRunning inTick c r o).out.restart = s.out.restart := by
  unfold State.takeRunning
  dsimp only
  split
  · split
    · exact finishHead_restart _ c
    · exact finishAndGoOn_restart _ c inTick
  · split
    · exact haltChannel_restart _ c r
    · exact (finishAndGoOn_restart _ c inTick).trans (claimIf_restart _ _ _)

@[simp] theorem expiryAt_restart : (s.expiryAt c).out.restart = s.out.restart := by
  have hoverrun : (s.overrun c).out.restart = s.out.restart := claimIf_restart _ _ _
  unfold State.expiryAt
  split
  · rfl
  · exact beginPass_restart s c true
  · exact hoverrun
  · exact hoverrun
  · exact hoverrun

end Heads

/-- R133: the channels bound to a pacer, one after another. -/
theorem expiryVisits_restart (n : PacerIx) (cs : List ChannelIx) (s : State) :
    (cs.foldl (expiryVisits n) s).out.restart = s.out.restart := by
  induction cs generalizing s with
  | nil => rfl
  | cons c rest ih =>
    refine (ih _).trans ?_
    unfold expiryVisits
    split
    · exact expiryAt_restart s c
    · rfl

/-! ### The ports (R76 to R105) -/

section Ports
variable (s : State) (p : Port)

@[simp] theorem enterPortState_out (st : PortState) : (s.enterPortState p st).out = s.out := by
  obtain ⟨_, _, h⟩ := enterPortState_touches s p st
  rw [h]

@[simp] theorem endTransaction_restart (e : Engine) (t : Transaction) (r : Result) (course : Course) (inTick : Bool) :
    (s.endTransaction p e t r course inTick).out.restart = s.out.restart := by
  obtain ⟨_, _, _, _, h⟩ := endTransaction_touches s p e t r course inTick
  rw [h]
  change (s.settleWatch e t r).out.restart = s.out.restart
  unfold State.settleWatch
  split
  · split
    · exact claimIf_restart _ _ _
    · rfl
  · rfl
  · rfl

theorem proceed_restart (t : Transaction) (inTick : Bool) (pr : Progress) :
    (s.proceed p t inTick pr).out.restart = s.out.restart := by
  rcases proceed_cases s p t inTick pr with ⟨e, -, h⟩ | ⟨e, r, course, -, h⟩
  · rw [h, setEngine_out]
  · rw [h, endTransaction_restart]

theorem onTargetAccounting_restart : (s.onTargetAccounting p).out.restart = s.out.restart := by
  rcases onTargetAccounting_out s p with h | ⟨k, h⟩
  · rw [h]
  · rw [h]
    exact choose_restart _

theorem recoveryFails_restart (inTick : Bool) : (s.recoveryFails p inTick).out.restart = s.out.restart := by
  have hafter (u : State) : (u.afterFailedRecovery p inTick).out.restart = u.out.restart := by
    unfold State.afterFailedRecovery
    split
    · rw [enterPortState_out]
    · exact endTransaction_restart u p _ _ _ _ inTick
  exact (hafter _).trans (claim_restart s _)

theorem attemptFails_restart (r : Recovery) (inTick : Bool) :
    (s.attemptFails p r inTick).out.restart = s.out.restart := by
  unfold State.attemptFails
  split
  · rfl
  · exact recoveryFails_restart s p inTick

variable {s p}

theorem whenBusy_restart {f : Engine → Transaction → State}
    (hf : ∀ t, (f (s.engine p) t).out.restart = s.out.restart) : (whenBusy p s f).out.restart = s.out.restart :=
  whenBusy_keeps (P := fun u => u.out.restart = s.out.restart) (fun t _ _ => hf t) rfl

theorem whenRecovering_restart {arises : Recovery → Option Nat → Bool} {f : State → Engine → Recovery → State}
    (hf : ∀ u e r, (f u e r).out.restart = u.out.restart) :
    (whenRecovering p s arises f).out.restart = s.out.restart :=
  whenRecovering_keeps (P := fun u => u.out.restart = s.out.restart)
    (fun r _ _ _ => (hf _ _ r).trans (onTargetAccounting_restart s p)) rfl

end Ports

/-! ### The expiries (R125) -/

/-- What a tick has ended leaves the stage of RESTART. -/
theorem expire_restart (s : State) (x : Expiry) : (s.expire x).out.restart = s.out.restart := by
  cases x with
  | pacer n =>
    unfold State.expire State.onPacerExpiry
    dsimp only
    split
    · exact expiryVisits_restart n allChannels _
    · rfl
  | pause c =>
    unfold State.expire State.onPauseExpiry
    dsimp only
    split
    · exact takeRunning_restart s c true _ none
    · rfl
  | passGap c =>
    unfold State.expire State.onPassGapEnd
    dsimp only
    split
    · exact beginPass_restart s c true
    · rfl
  | linkGap =>
    unfold State.expire State.onGapExpiry
    dsimp only
    split <;> rfl
  | retransmit number =>
    unfold State.expire State.onRetransmitTimerExpiry
    dsimp only
    split
    · exact choose_restart _
    · rfl
  | stretch p => exact whenBusy_restart fun t => by split <;> rfl
  | stopClockWait p =>
    refine whenBusy_restart fun t => ?_
    split
    · exact endTransaction_restart s p _ t _ _ true
    · rfl
  | cycleLimit p begun =>
    refine whenBusy_restart fun t => ?_
    split
    · exact proceed_restart s p t true _
    · rfl
  | retryGap p => exact whenBusy_restart fun t => by split <;> rfl
  | recoveryClockWait p => exact whenRecovering_restart fun u _ r => attemptFails_restart u p r true
  | recoveryGap p => exact whenRecovering_restart fun _ _ _ => rfl

theorem takeDue_restart (s : State) : s.takeDue.out.restart = s.out.restart :=
  takeDue_keeps (P := fun u => u.out.restart = s.out.restart) (fun u x hu => (expire_restart u x).trans hu) rfl

end Sys2Proof.Machine

/-! SUPPORT. The Command Interpreter (R168 to R176, R186, R195): the taking of a frame, a reply and its frame, the refusals that
come before the owner's other checks, and the commands PING, IDENTIFY, STATUS, STATS and RESTART. -/

namespace Sys2Proof.Machine

/-! ### The CRC (R159) -/

theorem crcBit_eq (crc : Crc) (bit : Bool) :
    crcBit crc bit = if crc.getLsbD 15 = bit then crc <<< 1 else (crc <<< 1) ^^^ 0x1021 := by
  have hmsb : crc.getMsbD 0 = crc.getLsbD 15 := rfl
  simp [crcBit, hmsb]

/-- A byte's bits are taken from the most significant. -/
theorem crcByte_eq (crc : Crc) (b : Byte) : crcByte crc b =
    [7, 6, 5, 4, 3, 2, 1, 0].foldl
      (fun (crc : Crc) (i : Nat) => if crc.getLsbD 15 = b.getLsbD i then crc <<< 1 else (crc <<< 1) ^^^ 0x1021) crc := by
  simp only [← crcBit_eq]
  rfl

theorem crc16_append_singleton (bytes : List Byte) (b : Byte) : crc16 (bytes ++ [b]) = crcByte (crc16 bytes) b :=
  List.foldl_append

/-! ### A reply placed (R144, R158, R168) -/

/-- After the reply to RESTART has gone no further frame is chosen (R176). -/
theorem placeReply_replyGone {o : Outbound} (r : Reply) (h : o.restart = .replyGone) :
    o.placeReply r = { o with reply := .pending r, takingNext := false } :=
  choose_waits (.inr (.inl h))

/-- Settles O11: a frame taken, a reply placed by what the transmitter does, its frame, and the CRC. -/
theorem replyPlaced : Obligations.ReplyPlaced := by
  refine ⟨fun _ _ => rfl, fun _ _ _ _ => rfl,
    fun o r => ⟨placeReply_idle r, placeReply_busy r, placeReply_replyGone r⟩, fun _ => rfl, fun _ => rfl, rfl,
    fun bytes b => ?_, rfl⟩
  rw [crc16_append_singleton, crcByte_eq]

/-! ### When a frame is taken, and when it repeats the last (R168) -/

theorem interpreterFree_iff (s : State) :
    s.interpreterFree = true ↔ s.interp.executing = false ∧ s.out.restart = .none := by
  simp [State.interpreterFree]

theorem canTakeFrame_iff (s : State) :
    s.canTakeFrame = true ↔ s.interp.executing = false ∧ s.out.restart = .none ∧ s.out.reply = .empty := by
  rw [State.canTakeFrame, Bool.and_eq_true, interpreterFree_iff, beq_iff_eq, and_assoc]

theorem isRepeat_iff (s : State) (f : CommandFrame) :
    s.isRepeat f = true ↔ ∃ c, s.interp.cache = some c ∧ c.tag = f.tag ∧ c.crc = f.crc := by
  unfold State.isRepeat
  cases s.interp.cache <;> simp

/-- Settles O12: when a frame is taken and when it repeats; then the repeat, and the kind that is none. -/
theorem repeatAndUnknownKind : Obligations.RepeatAndUnknownKind := by
  refine ⟨canTakeFrame_iff, isRepeat_iff, fun s f rest hq hin hfree => ⟨fun c hc htag hcrc => ?again,
    fun hkind hfresh => ?unknown⟩⟩
  case again =>
    have hrepeat : s.isRepeat f = true := (isRepeat_iff s f).mpr ⟨c, hc, htag, hcrc⟩
    refine (whenOperating_of hq State.onDuplicateCommand).trans (congrArg Host.Outcome.next ?_)
    unfold State.onDuplicateCommand
    rw [hin, hc]
    exact if_pos (by rw [hfree, hrepeat]; rfl)
  case unknown =>
    refine (whenOperating_of hq State.onUnknownKind).trans (congrArg Host.Outcome.next ?_)
    unfold State.onUnknownKind
    rw [hin]
    exact if_pos (by rw [hfree, hkind, hfresh]; rfl)

/-! ### The owner of each kind (R169 step 4) -/

/-- The owner's settlement of a command from the link: that of a record, but for the three kinds a record may not have (R185). -/
def ownerSettle : CommandKind → List Byte → State → Settled
  | .stats => settleStats
  | .restart => settleRestart
  | .abortStart => settleAbortStart
  | kind => settleKind kind

/-- What follows the reply: the evaluation of the ticket that an XFER has posted (R66). -/
def followUp : CommandKind → Nat → State → State
  | .xfer => fun n s => s.evaluateTicket n
  | _ => fun _ s => s

/-- The step of each command kind is the interpreter's taking of a frame of that kind for its owner. -/
theorem exec_step (kind : CommandKind) (s : State) :
    exec kind.step s = whenOperating s (interpret kind (ownerSettle kind) (followUp kind)) := by
  cases kind <;> rfl

theorem ownerSettle_of_record {kind : CommandKind} (h : kind ∉ [CommandKind.restart, .abortStart, .stats]) :
    ownerSettle kind = settleKind kind := by
  unfold ownerSettle
  split
  · exact absurd (by simp) h
  · exact absurd (by simp) h
  · exact absurd (by simp) h
  · rfl

/-- A command that its owner refuses is answered with the status alone. -/
theorem refuses_step {s : State} {kind : CommandKind} {f : CommandFrame} {rest : List CommandFrame} {st : Status}
    (h : Takes s kind f rest)
    (hs : ownerSettle kind f.payload (s.takeOldest rest) = refuse (s.takeOldest rest) st) :
    Refuses kind.step s f rest st :=
  (exec_step kind s).trans (interpret_taken h hs (followUp kind))

/-! ### The refusals before the owner (R169 steps 2 and 3) -/

/-- A frame that the interpreter takes and that is refused on its way to the owner. -/
theorem refuses_from_link {s : State} {kind : CommandKind} {f : CommandFrame} {rest : List CommandFrame} {st : Status}
    (hq : s.quiet = true) (hin : s.link.inbox = f :: rest) (hfree : s.canTakeFrame = true)
    (hkind : commandKindOf f.kind.toNat = some kind) (hfresh : s.isRepeat f = false)
    (hs : settleFromLink kind (ownerSettle kind) f.payload (s.takeOldest rest) = refuse (s.takeOldest rest) st) :
    Refuses kind.step s f rest st := by
  have htakes : (s.canTakeFrame && commandKindOf f.kind.toNat == some kind && !s.isRepeat f) = true := by
    rw [hfree, hkind, hfresh, beq_self_eq_true]
    rfl
  refine (exec_step kind s).trans ((whenOperating_of hq _).trans (congrArg Host.Outcome.next ?_))
  rw [interpret, hin]
  dsimp only
  rw [if_pos htakes, hs]
  rfl

section FromLink
variable {kind : CommandKind} {payload : List Byte} {s : State}

theorem settleFromLink_notAdmitted (hstart : s.replay.system = .starting) (hadm : kind.admittedAtStart = false)
    (settle : List Byte → State → Settled) : settleFromLink kind settle payload s = refuse s .busyStarting :=
  if_pos ⟨hstart, hadm⟩

theorem settleFromLink_badLength (hadm : s.replay.system = .ready ∨ kind.admittedAtStart = true)
    (hlen : ¬(kind.bounds.1 ≤ payload.length ∧ payload.length ≤ kind.bounds.2))
    (settle : List Byte → State → Settled) : settleFromLink kind settle payload s = refuse s .badLength := by
  have hadmitted : ¬(s.replay.system = .starting ∧ kind.admittedAtStart = false) := by
    rintro ⟨hstart, hno⟩
    rcases hadm with hready | hyes
    · cases hready.symm.trans hstart
    · cases hno.symm.trans hyes
  rw [settleFromLink, if_neg hadmitted]
  exact if_pos (decide_eq_false hlen)

end FromLink

/-! ### The number checks (R2, R33, R108, R127) -/

section Numbers
variable {kind : CommandKind} {payload : List Byte}

theorem withChannel_above (h : 7 < at1 payload 0) (s : State) (f : ChannelIx → Settled) :
    withChannel payload s f = refuse s .badValue := dif_neg (by omega)

theorem withSlot_above (h : 31 < at1 payload 0) (s : State) (f : SlotIx → Settled) :
    withSlot payload s f = refuse s .badValue := dif_neg (by omega)

theorem withPacer_above (h : 3 < at1 payload 0) (s : State) (f : PacerIx → Settled) :
    withPacer payload s f = refuse s .badValue := dif_neg (by omega)

/-- R191: the codes 1 to 4 name the ports. -/
theorem portOf_outside {n : Nat} (h : n = 0 ∨ 4 < n) : portOf n = none := by
  refine Option.eq_none_iff_forall_ne_some.mpr fun p hp => ?_
  have hcode := (portOf_eq_some_iff n p).mp hp
  cases p <;> simp only [portCode] at hcode <;> omega

theorem withPort_outside (h : at1 payload 0 = 0 ∨ 4 < at1 payload 0) (s : State) (f : Port → Settled) :
    withPort payload s f = refuse s .badValue := by
  rw [withPort, portOf_outside h]

theorem ownerSettle_channel_above
    (hk : kind ∈ [CommandKind.chConfig, .chLoad, .chClear, .chStart, .chStop, .chAbort, .chResume, .chGet])
    (h : 7 < at1 payload 0) (s : State) : ownerSettle kind payload s = refuse s .badValue := by
  simp only [List.mem_cons, List.not_mem_nil, or_false] at hk
  rcases hk with rfl | rfl | rfl | rfl | rfl | rfl | rfl | rfl <;>
    simp only [ownerSettle, settleKind, settleChConfig, settleChLoad, settleChClear, settleChStart, settleChStop,
      settleChAbort, settleChResume, settleChGet, withChannel_above h]

theorem ownerSettle_slot_above (hk : kind ∈ [CommandKind.tgtSet, .tgtGet, .tgtRemove, .tgtFence, .tgtUnfence])
    (h : 31 < at1 payload 0) (s : State) : ownerSettle kind payload s = refuse s .badValue := by
  simp only [List.mem_cons, List.not_mem_nil, or_false] at hk
  rcases hk with rfl | rfl | rfl | rfl | rfl <;>
    simp only [ownerSettle, settleKind, settleTgtSet, settleTgtGet, settleTgtRemove, settleTgtFence, settleTgtUnfence,
      withSlot_above h]

theorem ownerSettle_pacer_above (hk : kind ∈ [CommandKind.pcSet, .pcStart, .pcStop, .pcGet])
    (h : 3 < at1 payload 0) (s : State) : ownerSettle kind payload s = refuse s .badValue := by
  simp only [List.mem_cons, List.not_mem_nil, or_false] at hk
  rcases hk with rfl | rfl | rfl | rfl <;>
    simp only [ownerSettle, settleKind, settlePcSet, settlePcStart, settlePcStop, settlePcGet, withPacer_above h]

theorem ownerSettle_port_outside (hk : kind ∈ [CommandKind.ptEnable, .ptDisable, .ptReset, .ptGet])
    (h : at1 payload 0 = 0 ∨ 4 < at1 payload 0) (s : State) : ownerSettle kind payload s = refuse s .badValue := by
  simp only [List.mem_cons, List.not_mem_nil, or_false] at hk
  rcases hk with rfl | rfl | rfl | rfl <;>
    simp only [ownerSettle, settleKind, settlePtEnable, settlePtDisable, settlePtReset, settlePtGet, withPort_outside h]

end Numbers

/-- R186: the six kinds that start-up admits. -/
theorem admittedAtStart_iff (kind : CommandKind) : kind.admittedAtStart = true ↔
    kind ∈ [CommandKind.ping, .identify, .status, .stats, .restart, .abortStart] := by
  cases kind <;> decide

/-- Settles O13: the codes and bounds, then each refusal in the order of the checks. -/
theorem refusedBeforeAnyOtherCheck : Obligations.RefusedBeforeAnyOtherCheck := by
  refine ⟨by decide, fun code hcode => ?none, admittedAtStart_iff,
    fun kind s f rest hq hin hfree hkind hfresh => ⟨fun hstart hadm => ?starting, fun hadm hlen => ?length⟩,
    fun kind s f rest ht => ⟨fun hk h => ?channel, fun hk h => ?slot, fun hk h => ?pacer, fun hk h => ?port⟩⟩
  case none =>
    simp only [List.map_append, List.map_cons, List.map_nil, List.mem_append, List.mem_cons, List.not_mem_nil, or_false,
      not_or] at hcode
    unfold commandKindOf
    split
    case h_32 => rfl
    all_goals omega
  case starting =>
    exact refuses_from_link hq hin hfree hkind hfresh
      (settleFromLink_notAdmitted (s := s.takeOldest rest) hstart hadm (ownerSettle kind))
  case length =>
    exact refuses_from_link hq hin hfree hkind hfresh
      (settleFromLink_badLength (s := s.takeOldest rest) hadm hlen (ownerSettle kind))
  case channel => exact refuses_step ht (ownerSettle_channel_above hk h _)
  case slot => exact refuses_step ht (ownerSettle_slot_above hk h _)
  case pacer => exact refuses_step ht (ownerSettle_pacer_above hk h _)
  case port => exact refuses_step ht (ownerSettle_port_outside hk h _)

/-! ### PING, IDENTIFY and STATUS (R172 to R174) -/

/-- Settles O14: each command is answered with the bytes its owner reads, on the state as it was taken. -/
theorem statusCommands : Obligations.StatusCommands := by
  intro s f rest
  refine ⟨fun ht => ?ping, fun ht => ?identify, fun ht => ?status⟩
  case ping => exact answers_of (settle := settlePing) ht rfl
  case identify => exact answers_of (settle := settleIdentify) ht rfl
  case status => exact answers_of (settle := settleStatus) ht rfl

/-! ### STATS (R175) -/

section Stats
variable {payload : List Byte}

theorem settleStats_reads (h : payload = [] ∨ payload = [0]) (s : State) :
    settleStats payload s = taken s (statsBytes s) := by
  rcases h with rfl | rfl <;> rfl

theorem settleStats_clears (h : payload = [1]) (s : State) :
    settleStats payload s = taken s.clearStats (statsBytes s) := by
  rw [h]
  rfl

/-- R191: a flag byte holds 0 or 1. -/
theorem flagOf_above {n : Nat} (h : 1 < n) : flagOf n = none := by
  unfold flagOf
  split
  · omega
  · omega
  · rfl

theorem settleStats_badValue {b : Byte} (h : payload = [b]) (hb : 1 < b.toNat) (s : State) :
    settleStats payload s = refuse s .badValue := by
  have hflag : clearFlagOf [b] = none := flagOf_above hb
  rw [h, settleStats, hflag]

end Stats

/-- Settles O15: the 66 bytes, then STATS by its clear flag. -/
theorem statsReadsAndClears : Obligations.StatsReadsAndClears := by
  refine ⟨fun s => ⟨?bytes, ?length⟩, fun s f rest ht => ⟨fun hp => ?reads, fun hp => ?clears, fun b hp hb => ?bad⟩⟩
  case bytes =>
    simp only [statsBytes, LinkCounters.bytes, NoticeCounters.bytes, allPorts, List.flatMap_cons, List.flatMap_nil,
      List.append_nil, List.append_assoc, bytes2, bytes4]
  case length => rfl
  case reads => exact answers_of ht (settleStats_reads hp (s.takeOldest rest))
  case clears => exact answers_of ht (settleStats_clears hp (s.takeOldest rest))
  case bad => exact refuses_of ht (settleStats_badValue hp hb (s.takeOldest rest))

/-! ### RESTART (R176) -/

section AfterRestart
variable {s : State} (h : s.out.restart ≠ .none)
include h

theorem interpreterFree_after_restart : s.interpreterFree = false :=
  Bool.eq_false_iff.mpr fun hfree => h ((interpreterFree_iff s).mp hfree).2

theorem canTakeFrame_after_restart : s.canTakeFrame = false := by
  rw [State.canTakeFrame, interpreterFree_after_restart h, Bool.false_and]

theorem interpret_after_restart (kind : CommandKind) (settle : List Byte → State → Settled)
    (after : Nat → State → State) : interpret kind settle after s = s := by
  unfold interpret
  split
  · rfl
  · rw [canTakeFrame_after_restart h]
    rfl

theorem onUnknownKind_after_restart : s.onUnknownKind = s := by
  unfold State.onUnknownKind
  split
  · rfl
  · rw [canTakeFrame_after_restart h]
    rfl

theorem onDuplicateCommand_after_restart : s.onDuplicateCommand = s := by
  unfold State.onDuplicateCommand
  split
  · rw [canTakeFrame_after_restart h]
    rfl
  · rfl
  · rfl

theorem onScriptRecord_after_restart : s.onScriptRecord = s :=
  if_neg fun ⟨_, _, hfree⟩ => Bool.false_ne_true ((interpreterFree_after_restart h).symm.trans hfree)

/-- A step that does nothing after RESTART takes what a tick has ended, and no more. -/
theorem whenOperating_after_restart {f : State → State} (hf : ∀ {u : State}, u.out.restart ≠ .none → f u = u) :
    whenOperating s f = .next s.settled := by
  have hdue : f s.takeDue = s.takeDue := hf (by rw [takeDue_restart]; exact h)
  rw [whenOperating, hdue]
  rfl

end AfterRestart

/-- Settles O16: RESTART is answered OK; after it each taking finds the interpreter not free. -/
theorem restartExecuted : Obligations.RestartExecuted := by
  refine ⟨fun s f rest ht => answers_of (settle := settleRestart) ht rfl, fun s h => ⟨fun kind => ?command, ?unknown,
    ?duplicate, ?record, settled_of_quiet⟩⟩
  case command =>
    exact (exec_step kind s).trans (whenOperating_after_restart h fun hu => interpret_after_restart hu kind _ _)
  case unknown => exact whenOperating_after_restart h onUnknownKind_after_restart
  case duplicate => exact whenOperating_after_restart h onDuplicateCommand_after_restart
  case record => exact whenOperating_after_restart h onScriptRecord_after_restart

end Sys2Proof.Machine

/-! SUPPORT. The records of the start-up script (R170, R184, R185, R188): what each record comes to, and how it compares with the
command frame of the same kind and payload. -/

namespace Sys2Proof.Machine

/-! ### A record settled (R170, R185) -/

section Record
variable {code : Nat} {kind : CommandKind} {payload : List Byte} {s : State}

theorem settleRecord_unknownKind (h : commandKindOf code = none) :
    settleRecord code payload s = refuse s .unknownKind := by
  rw [settleRecord, h]

theorem settleRecord_badLength (h : commandKindOf code = some kind)
    (hlen : ¬(kind.bounds.1 ≤ payload.length ∧ payload.length ≤ kind.bounds.2)) :
    settleRecord code payload s = refuse s .badLength := by
  rw [settleRecord, h]
  exact if_pos (decide_eq_false hlen)

/-- A record of a known kind and length is settled by its owner. -/
theorem settleRecord_of (h : commandKindOf code = some kind)
    (hlen : kind.bounds.1 ≤ payload.length ∧ payload.length ≤ kind.bounds.2) :
    settleRecord code payload s = settleKind kind payload s := by
  rw [settleRecord, h]
  exact if_neg fun hno => Bool.false_ne_true (hno.symm.trans (decide_eq_true hlen))

/-- R185: the three kinds that a record may not have. -/
theorem settleKind_wrongState (h : kind ∈ [CommandKind.restart, .abortStart, .stats]) :
    settleKind kind payload s = refuse s .wrongState := by
  simp only [List.mem_cons, List.not_mem_nil, or_false] at h
  rcases h with rfl | rfl | rfl <;> rfl

end Record

/-! ### The record at the pointer (R184, R185) -/

/-- SCRIPT_RECORD in EXECUTE, with the interpreter free: the first that applies. -/
theorem exec_scriptRecord_of {s : State} (hq : s.quiet = true) (hs : s.replay.system = .starting)
    (hp : s.replay.phase = .execute) (he : s.interp.executing = false) (hr : s.out.restart = .none) :
    exec .scriptRecord s = .next s.runRecord :=
  (whenOperating_of hq State.onScriptRecord).trans
    (congrArg Host.Outcome.next (if_pos ⟨hs, hp, (interpreterFree_iff s).mpr ⟨he, hr⟩⟩))

theorem recordWrong_iff (r : Replay) : r.recordWrong = true ↔
    (r.buffer.read r.pointer).toNat < 3 ∨ 250 < (r.buffer.read r.pointer).toNat
      ∨ 8 + r.scriptLength ≤ r.pointer + (r.buffer.read r.pointer).toNat := decide_eq_true_iff

section RunRecord
variable {s : State}

theorem runRecord_aborted (h : s.replay.abortRequested = true) : s.runRecord = s.endStartup .aborted 0 .ok := if_pos h

variable (h : s.replay.abortRequested = false)
include h

theorem runRecord_complete (hp : s.replay.pointer = 8 + s.replay.scriptLength) :
    s.runRecord = s.endStartup .complete 0 .ok :=
  (if_neg (Bool.eq_false_iff.mp h)).trans (if_pos hp)

variable (hp : s.replay.pointer ≠ 8 + s.replay.scriptLength)
include hp

/-- R184 items 3 and 4: the length is wrong, or the class is not that of a command. -/
theorem runRecord_badRecord
    (hbad : s.replay.recordWrong = true ∨ (s.replay.buffer.read (s.replay.pointer + 1)).toNat ≠ 1) :
    s.runRecord = s.endStartup .badRecord s.replay.index .ok := by
  refine (if_neg (Bool.eq_false_iff.mp h)).trans ((if_neg hp).trans ?_)
  by_cases hw : s.replay.recordWrong = true
  · exact if_pos hw
  · exact (if_neg hw).trans (if_pos (hbad.resolve_left hw))

/-- R184 item 5: the record is executed. -/
theorem runRecord_executes (hw : ¬s.replay.recordWrong = true)
    (hclass : (s.replay.buffer.read (s.replay.pointer + 1)).toNat = 1) :
    s.runRecord = s.takeRecordReply (s.replay.byteAt s.replay.pointer)
      (settleRecord s.replay.recordKind s.replay.recordPayload s) :=
  (if_neg (Bool.eq_false_iff.mp h)).trans ((if_neg hp).trans ((if_neg hw).trans (if_neg (not_not_intro hclass))))

end RunRecord

/-! ### A record and the command frame of its kind and payload (R170) -/

/-- A frame of a kind that a record may have is answered with what the record's settlement is, on the state as it was taken. -/
theorem exec_step_settled {s : State} {kind : CommandKind} {f : CommandFrame} {rest : List CommandFrame}
    (h : Takes s kind f rest) (hk : kind ∉ [CommandKind.restart, .abortStart, .stats]) {r : Settled}
    (hr : settleKind kind f.payload (s.takeOldest rest) = r) :
    exec kind.step s = .next (r.evaluate.elim (r.state.answer f r.status r.fields)
      fun n => followUp kind n (r.state.answer f r.status r.fields)) := by
  rw [← ownerSettle_of_record hk] at hr
  exact (exec_step kind s).trans (interpret_taken h hr (followUp kind))

/-- Settles O35: the end of start-up, SCRIPT_RECORD by the first that applies, the settlement of a record, and of the command
frame of the same kind and payload. -/
theorem scriptRecordRun : Obligations.ScriptRecordRun := by
  refine ⟨fun s o i st => rfl, fun s hq hs hp he hr => ?run, fun s code payload => ?settled,
    fun s kind f rest ht hk => ?frame⟩
  case run =>
    rw [exec_scriptRecord_of hq hs hp he hr]
    refine ⟨fun ha => ?aborted, fun ha hend => ?complete, fun ha hend hbad => ?badRecord,
      fun ha hend hlo hhi hin hclass => ?executed⟩
    case aborted => rw [runRecord_aborted ha]
    case complete => rw [runRecord_complete ha hend]
    case badRecord =>
      have hwrong := recordWrong_iff s.replay
      rw [runRecord_badRecord ha hend (by tauto)]
    case executed =>
      have hright : ¬s.replay.recordWrong = true := by
        rw [recordWrong_iff]
        omega
      rw [runRecord_executes ha hend hright hclass]
      exact ⟨fun hst => congrArg Host.Outcome.next (if_neg hst), fun hst => congrArg Host.Outcome.next (if_pos hst)⟩
  case settled =>
    exact ⟨settleRecord_unknownKind, fun kind hkind => ⟨settleRecord_badLength hkind, fun hlo hhi =>
      ⟨fun hno => (settleRecord_of hkind ⟨hlo, hhi⟩).trans (settleKind_wrongState hno),
        fun _ => settleRecord_of hkind ⟨hlo, hhi⟩⟩⟩⟩
  case frame =>
    have hplain := fun hx : kind ≠ .xfer => settleKind_evaluate hx f.payload (s.takeOldest rest)
    refine ⟨hplain, (exec_step_settled ht hk rfl).trans (congrArg Host.Outcome.next ?_)⟩
    by_cases hx : kind = .xfer
    · subst hx
      cases (settleKind .xfer f.payload (s.takeOldest rest)).evaluate <;> rfl
    · rw [hplain hx]
      rfl

end Sys2Proof.Machine

/-! SUPPORT. The reset causes (R176, R177), the start of operation (R179), ABORT_START (R187), and the settlement of the boot
memory reads (R180 to R183). -/

namespace Sys2Proof.Machine

/-! ### The part held in reset (R177) -/

theorem exec_resetNLow_short {micros : Nat} (h : micros < 10) (s : State) : exec (.resetNLow micros) s = .next s :=
  congrArg Host.Outcome.next (if_pos h)

theorem exec_resetNLow_long {micros : Nat} (h : 10 ≤ micros) (s : State) :
    exec (.resetNLow micros) s = .next { s.resetBlocks false with resetNLow := true } :=
  congrArg Host.Outcome.next (if_neg h.not_gt)

/-- What whenOperating and whenDue come to on a held part. -/
theorem next_held {s : State} (h : s.operating = false) (t : State) :
    (.next (if s.operating then t else s) : StepOutcome) = .next s := by
  rw [h, if_neg Bool.false_ne_true]

/-- R177: a held part takes no event but the reset causes. A byte or a condition on a bus raises no fault there. -/
theorem exec_held {c : Instr} {s : State} (h : s.operating = false) (hc : ¬isResetCause c) : exec c s = .next s := by
  cases c with
  | powerOnReset | resetNLow | resetNRelease | supplyValid => exact absurd trivial hc
  | byteComplete p bits ack =>
    change execByteComplete p bits ack s = _
    rw [execByteComplete, h, Bool.false_and, Bool.false_and, if_neg Bool.false_ne_true, whenOperating_held h]
  | busConditionFormed p lines =>
    change execBusConditionFormed p lines s = _
    rw [execBusConditionFormed, h, Bool.false_and, Bool.false_and, if_neg Bool.false_ne_true, whenOperating_held h]
  | _ => exact next_held h _

/-- Settles O3: each of the two causes that hold the part, and then every event that comes while it is held. -/
theorem resetHoldsThePart : Obligations.ResetHoldsThePart := by
  refine ⟨fun s => rfl, fun s micros h => exec_resetNLow_long h s, fun s micros h => exec_resetNLow_short h s,
    fun c s h hpower hlow hrelease hsupply => exec_held h fun hc => ?_⟩
  cases c with
  | powerOnReset => exact hpower rfl
  | resetNLow micros => exact hlow micros rfl
  | resetNRelease straps lines => exact hrelease straps lines rfl
  | supplyValid straps lines => exact hsupply straps lines rfl
  | _ => exact hc

/-! ### The start of operation (R177, R179) -/

/-- R177: the part as its operation starts, before the Replay Unit acts on the sampled straps. -/
def State.started (s : State) (keepLink : Bool) (straps : Straps) : State :=
  { State.reset with
    pending := s.pending
    powerOnHold := false
    straps := straps
    link := { Link.atReset with counters := if keepLink then s.link.counters else LinkCounters.atReset } }

theorem startOperation_of_operating {s : State} (h : s.operating = true) (keepLink : Bool) (straps : Straps)
    (lines : Lines) : s.startOperation keepLink straps lines = (s.started keepLink straps).beginStartup lines := by
  obtain ⟨hp, hn⟩ : s.powerOnHold = false ∧ s.resetNLow = false := by simpa [State.operating] using h
  rw [State.startOperation, State.resetBlocks, hp, hn]
  rfl

theorem startIfReleased_of_operating {s : State} (h : s.operating = true) (straps : Straps) (lines : Lines) :
    s.startIfReleased straps lines = (s.started false straps).beginStartup lines :=
  (if_pos h).trans (startOperation_of_operating h false straps lines)

/-- R177: a step that ends the last of the causes starts operation. -/
theorem exec_starts {s : State} {straps : Straps} {lines : Lines} {c : Instr} {keepLink : Bool}
    (h : Starts s straps lines c keepLink) : exec c s = .next ((s.started keepLink straps).beginStartup lines) := by
  cases h with
  | supply hp hn =>
    have hfree : ({ s with powerOnHold := false } : State).operating = true := by simp [State.operating, hn]
    exact congrArg Host.Outcome.next ((if_pos hp).trans (startIfReleased_of_operating hfree straps lines))
  | release hn hp =>
    have hfree : ({ s with resetNLow := false } : State).operating = true := by simp [State.operating, hp]
    exact congrArg Host.Outcome.next ((if_pos hn).trans (startIfReleased_of_operating hfree straps lines))
  | restart hq hr =>
    refine (whenOperating_of hq fun s => s.onRestartEffect straps lines).trans (congrArg Host.Outcome.next ?_)
    exact (if_pos hr).trans (startOperation_of_operating (operating_of_quiet hq) true straps lines)

/-- R179: with BOOT_EN low start-up ends at once. -/
theorem beginStartup_low {s : State} (h : s.straps.bootEn = false) (lines : Lines) :
    s.beginStartup lines = s.endStartup .skipped 0 .ok :=
  if_neg (Bool.eq_false_iff.mp h)

/-- R179, R181: with BOOT_EN high the header is read. -/
theorem beginStartup_high {s : State} (h : s.straps.bootEn = true) (lines : Lines) :
    s.beginStartup lines =
      ({ s with replay := { s.replay with system := .starting, phase := .header } } : State).beginTransaction .a headerRead
        lines :=
  if_pos h

/-- R137, R141: the first notice after reset, as it is stored. -/
def firstNotice (k : NoticeKind) : Notice :=
  { number := 0, kind := k, merges := 0, transmissions := 0, inWindow := false, timer := .none }

/-- The notice queue once the first claim after reset has been stored. -/
def firstQueue (k : NoticeKind) : NoticeQueue :=
  { NoticeQueue.atReset with
    held := [firstNotice k]
    nextNumber := 1
    attnLow := attnLevel [firstNotice k]
    counters := { NoticeQueue.atReset.counters with created := 1 } }

theorem settle_atReset (k : NoticeKind) : NoticeQueue.atReset.settle k = firstQueue k :=
  settle_stores (canMerge_eq_false (held := []) nofun) (by decide)

theorem nextQueuedClass_first (k : NoticeKind) : nextQueuedClass [firstNotice k] = k.noticeClass :=
  nextQueuedClass_eq (n := firstNotice k) (List.mem_singleton_self _) rfl fun m hm _ => by rw [List.mem_singleton.mp hm]

/-- R144 to R146: the first claim after reset is stored, and the idle transmitter sends it at once. -/
theorem claim_atReset (k : NoticeKind) : Outbound.atReset.claim k =
    { Outbound.atReset with
      notices := { firstQueue k with held := [(firstNotice k).sent] }
      sending := some { source := .notice 0, bytes := (firstNotice k).sent.frame 0 } } := by
  have hdue : ∀ m ∈ [firstNotice k], ¬(m.inWindow = true ∧ m.timer = .due) := fun m hm ⟨hw, _⟩ => by
    rw [List.mem_singleton.mp hm] at hw
    cases hw
  have hqueued : (firstNotice k).queuedOf k.noticeClass = true := (queuedOf_iff _ _).mpr ⟨rfl, rfl⟩
  calc Outbound.atReset.claim k
      = ({ Outbound.atReset with notices := NoticeQueue.atReset.settle k } : Outbound).choose := rfl
    _ = ({ Outbound.atReset with notices := firstQueue k } : Outbound).choose := by rw [settle_atReset]
    _ = ({ Outbound.atReset with notices := firstQueue k } : Outbound).sendNotice
          (Notice.queuedOf (nextQueuedClass [firstNotice k])) false :=
        choose_queued (o := { Outbound.atReset with notices := firstQueue k }) rfl nofun rfl nofun rfl hdue
          (Nat.zero_lt_succ 3)
    _ = ({ Outbound.atReset with notices := firstQueue k } : Outbound).sendNotice (Notice.queuedOf k.noticeClass) false := by
        rw [nextQueuedClass_first]
    _ = _ := sendNotice_at (before := []) (after := []) rfl hqueued nofun false

/-- Settles O4: by what the first claim after reset leaves on the sending side. -/
theorem startWithoutScript : Obligations.StartWithoutScript := by
  intro c s straps lines keepLink h hboot
  have hout := claim_atReset (.startReport .skipped 0 0 .ok)
  refine ⟨_, (exec_starts h).trans (congrArg Host.Outcome.next (beginStartup_low hboot lines)), rfl, rfl, rfl, rfl,
    congrArg Outbound.notices hout, congrArg Outbound.sending hout, congrArg Outbound.reply hout,
    congrArg Outbound.restart hout, congrArg Outbound.takingNext hout, ?_⟩
  exact ⟨rfl, rfl, rfl, rfl, rfl, rfl, rfl, rfl, rfl, rfl, rfl, rfl, rfl, rfl⟩

/-- Settles O5: by the line check with which the header read begins. -/
theorem startReadsTheHeader : Obligations.StartReadsTheHeader := by
  intro c s straps lines keepLink h hboot
  rw [exec_starts h, beginStartup_high hboot]
  have others (p : Port) (e : Engine) (hp : p ≠ .a) : (State.reset.engines.set .a e).get p = Engine.atReset :=
    ((PerPort.get_set _ _ _ _).trans (if_neg hp)).trans (reset_engine p)
  cases hl : lines.bothHigh with
  | true =>
    rw [beginTransaction_high _ _ _ hl]
    refine ⟨_, rfl, rfl, rfl, rfl, rfl, rfl, ⟨fun _ => ⟨rfl, rfl, rfl⟩, nofun⟩, fun p hp => others p _ hp, ?_⟩
    exact ⟨rfl, rfl, rfl, rfl, rfl, rfl, rfl, rfl, rfl, rfl, rfl, rfl, rfl⟩
  | false =>
    rw [beginTransaction_low _ _ _ hl]
    refine ⟨_, rfl, rfl, rfl, rfl, rfl, rfl, ⟨nofun, fun _ => ⟨rfl, rfl, rfl⟩⟩, fun p hp => others p _ hp, ?_⟩
    exact ⟨rfl, rfl, rfl, rfl, rfl, rfl, rfl, rfl, rfl, rfl, rfl, rfl, rfl⟩

/-! ### ABORT_START (R187) -/

section AbortStart
variable {s : State} {payload : List Byte}

theorem settleAbortStart_ready (h : s.replay.system = .ready) : settleAbortStart payload s = refuse s .wrongState :=
  if_pos h

variable (h : s.replay.system = .starting)
include h

theorem settleAbortStart_again (ha : s.replay.abortRequested = true) : settleAbortStart payload s = taken s [] :=
  (if_neg (by rw [h]; nofun)).trans (if_pos ha)

variable (ha : s.replay.abortRequested = false)
include ha

theorem settleAbortStart_execute (hp : s.replay.phase = .execute) :
    settleAbortStart payload s = taken s.requestStartAbort [] := by
  simp only [settleAbortStart, h, ha, hp, reduceCtorEq, if_false, Bool.false_eq_true]

/-- R187: while the boot memory is read, port A's engine is sent an abort request. -/
theorem settleAbortStart_reading (hp : s.replay.phase = .header ∨ s.replay.phase = .body) :
    settleAbortStart payload s = taken (s.requestStartAbort.sendAbort .a .replay) [] := by
  rcases hp with hp | hp <;>
    simp only [settleAbortStart, h, ha, hp, reduceCtorEq, if_false, Bool.false_eq_true]

end AbortStart

/-- Settles O17: ABORT_START by the system state, by whether it has been requested before, and by the phase. -/
theorem abortStartTaken : Obligations.AbortStartTaken := by
  refine fun s f rest ht => ⟨fun hs => ?ready, fun hs ha => ?again, fun hs ha hp => ?execute, fun hs ha hp => ?reading⟩
  case ready => exact refuses_of ht (settleAbortStart_ready (s := s.takeOldest rest) hs)
  case again => exact answers_of ht (settleAbortStart_again (s := s.takeOldest rest) hs ha)
  case execute => exact answers_of ht (settleAbortStart_execute (s := s.takeOldest rest) hs ha hp)
  case reading => exact answers_of ht (settleAbortStart_reading (s := s.takeOldest rest) hs ha hp)

/-! ### The header read (R180, R181) -/

theorem byteAt_eq_iff (r : Replay) (position : Nat) (b : Byte) :
    r.byteAt position = b.toNat ↔ r.buffer.read position = b :=
  BitVec.toNat_inj

/-- R181 item 4: the marker, the format byte and the flags byte. -/
theorem headerValid_iff (r : Replay) : r.headerValid = true ↔
    r.buffer.read 0 = 0x4A ∧ r.buffer.read 1 = 0x51 ∧ r.buffer.read 2 = 1 ∧ r.buffer.read 3 = 0 := by
  rw [Replay.headerValid, decide_eq_true_iff]
  exact and_congr (byteAt_eq_iff r 0 0x4A) (and_congr (byteAt_eq_iff r 1 0x51)
    (and_congr (byteAt_eq_iff r 2 1) (byteAt_eq_iff r 3 0)))

/-- R180: the Replay Unit has taken the record of the boot memory read. -/
def State.recordTaken (s : State) : State := { s with replay := { s.replay with record := none } }

/-- R180: the step of a phase takes the record of the boot memory read. -/
theorem takeReadRecord_of {s : State} {phase : ReplayPhase} {r : Record} (hr : s.replay.record = some r)
    (hs : s.replay.system = .starting) (hp : s.replay.phase = phase) (f : Record → State → State) :
    takeReadRecord phase s f = f r s.recordTaken := by
  rw [takeReadRecord, hr]
  exact if_pos ⟨hs, hp⟩

section Header
variable {s : State} {r : Record} {lines : Lines}

theorem exec_headerReadDone_of (hq : s.quiet = true) (hs : s.replay.system = .starting)
    (hr : s.replay.record = some r) (hp : s.replay.phase = .header) : exec (.headerReadDone lines) s =
      .next (s.recordTaken.settleHeader r lines) :=
  (whenOperating_of hq fun s => s.onHeaderReadDone lines).trans
    (congrArg Host.Outcome.next (takeReadRecord_of hr hs hp fun r s => s.settleHeader r lines))

theorem settleHeader_aborted (h : s.replay.abortRequested = true) :
    s.settleHeader r lines = s.endStartup .aborted 0 .ok :=
  if_pos h

variable (h : s.replay.abortRequested = false)
include h

theorem settleHeader_noScript (hr : r.result = .addrNak) : s.settleHeader r lines = s.endStartup .noScript 0 .ok :=
  (if_neg (Bool.eq_false_iff.mp h)).trans (if_pos hr)

theorem settleHeader_readFault (hn : r.result ≠ .addrNak) (hr : r.result ≠ .done) :
    s.settleHeader r lines = s.endStartup .readFault 0 .ok :=
  (if_neg (Bool.eq_false_iff.mp h)).trans ((if_neg hn).trans (if_pos hr))

variable (hr : r.result = .done)
include hr

/-- R181: what remains once the read is DONE. -/
theorem settleHeader_done : s.settleHeader r lines =
    if s.replay.headerValid = false then s.endStartup .badHeader 0 .ok
    else if s.replay.fieldAt 4 = 0 ∨ 4088 < s.replay.fieldAt 4 then s.endStartup .tooLong 0 .ok
    else ({ s with replay := { s.replay with scriptLength := s.replay.fieldAt 4, phase := .body } } :
      State).beginTransaction .a (bodyRead (s.replay.fieldAt 4) 0) lines :=
  (if_neg (Bool.eq_false_iff.mp h)).trans ((if_neg (by rw [hr]; nofun)).trans (if_neg (not_not_intro hr)))

theorem settleHeader_badHeader (hv : s.replay.headerValid = false) :
    s.settleHeader r lines = s.endStartup .badHeader 0 .ok :=
  (settleHeader_done h hr).trans (if_pos hv)

variable (hv : s.replay.headerValid = true)
include hv

theorem settleHeader_tooLong (hl : s.replay.fieldAt 4 = 0 ∨ 4088 < s.replay.fieldAt 4) :
    s.settleHeader r lines = s.endStartup .tooLong 0 .ok :=
  (settleHeader_done h hr).trans ((if_neg (by rw [hv]; nofun)).trans (if_pos hl))

theorem settleHeader_reads (hlo : 1 ≤ s.replay.fieldAt 4) (hhi : s.replay.fieldAt 4 ≤ 4088) :
    s.settleHeader r lines =
      ({ s with replay := { s.replay with scriptLength := s.replay.fieldAt 4, phase := .body } } :
        State).beginTransaction .a (bodyRead (s.replay.fieldAt 4) 0) lines :=
  (settleHeader_done h hr).trans ((if_neg (by rw [hv]; nofun)).trans (if_neg (by omega)))

end Header

/-! ### The body pieces (R182, R183) -/

/-- R183: the CRC-16 of the body equals the header's CRC field. -/
theorem Replay.crcMatches_iff (r : Replay) :
    r.crcMatches = true ↔ (crc16 (r.buffer.readBytes 8 r.scriptLength)).toNat = r.fieldAt 6 :=
  beq_iff_eq

/-- R182: the body bytes read once the piece is settled. -/
def Replay.bytesReadAfter (r : Replay) : Nat := r.bytesRead + bodyPieceLength r.scriptLength r.bytesRead

/-- R182: the piece read is counted. -/
def State.pieceCounted (s : State) : State :=
  { s with replay := { s.replay with bytesRead := s.replay.bytesReadAfter } }

section Piece
variable {s : State} {r : Record} {lines : Lines}

theorem exec_bodyPieceDone_of (hq : s.quiet = true) (hs : s.replay.system = .starting)
    (hr : s.replay.record = some r) (hp : s.replay.phase = .body) : exec (.bodyPieceDone lines) s =
      .next (s.recordTaken.settlePiece r lines) :=
  (whenOperating_of hq fun s => s.onBodyPieceDone lines).trans
    (congrArg Host.Outcome.next (takeReadRecord_of hr hs hp fun r s => s.settlePiece r lines))

theorem settlePiece_aborted (h : s.replay.abortRequested = true) :
    s.settlePiece r lines = s.endStartup .aborted 0 .ok :=
  if_pos h

variable (h : s.replay.abortRequested = false)
include h

theorem settlePiece_readFault (hr : r.result ≠ .done) : s.settlePiece r lines = s.endStartup .readFault 0 .ok :=
  (if_neg (Bool.eq_false_iff.mp h)).trans (if_pos hr)

variable (hr : r.result = .done)
include hr

theorem settlePiece_reads (hl : s.replay.bytesReadAfter < s.replay.scriptLength) : s.settlePiece r lines =
    s.pieceCounted.beginTransaction .a (bodyRead s.replay.scriptLength s.replay.bytesReadAfter) lines :=
  (if_neg (Bool.eq_false_iff.mp h)).trans ((if_neg (not_not_intro hr)).trans (if_pos hl))

theorem settlePiece_checks (hl : s.replay.scriptLength ≤ s.replay.bytesReadAfter) :
    s.settlePiece r lines = s.pieceCounted.checkBody :=
  (if_neg (Bool.eq_false_iff.mp h)).trans ((if_neg (not_not_intro hr)).trans (if_neg hl.not_gt))

end Piece

theorem checkBody_matches {s : State} (h : s.replay.crcMatches = true) :
    s.checkBody = { s with replay := { s.replay with phase := .execute, pointer := 8, index := 1 } } :=
  if_pos h

theorem checkBody_differs {s : State} (h : ¬s.replay.crcMatches = true) : s.checkBody = s.endStartup .crcFault 0 .ok :=
  if_neg h

/-- Settles O34: the definition of a boot memory read, then its record by the phase, and in each phase by the first outcome that
applies. -/
theorem bootReadsSettled : Obligations.BootReadsSettled := by
  refine ⟨fun offset length position => rfl, fun s u lines r hq hs hr hu => ⟨fun hp => ?header, fun hp => ?body⟩⟩
  case header =>
    rw [exec_headerReadDone_of hq hs hr hp]
    obtain rfl : u = s.recordTaken := hu
    refine ⟨fun ha => ?aborted, fun ha => ⟨fun hn => ?noScript, fun hn hf => ?readFault, fun hd hv => ?badHeader,
      fun hd h0 h1 h2 h3 => ?valid⟩⟩
    case aborted => rw [settleHeader_aborted (s := s.recordTaken) ha]
    case noScript => rw [settleHeader_noScript (s := s.recordTaken) ha hn]
    case readFault => rw [settleHeader_readFault (s := s.recordTaken) ha hn hf]
    case badHeader =>
      have hinvalid := Bool.eq_false_iff.mpr (mt (headerValid_iff s.replay).mp hv)
      rw [settleHeader_badHeader (s := s.recordTaken) ha hd hinvalid]
    case valid =>
      have hv := (headerValid_iff s.replay).mpr ⟨h0, h1, h2, h3⟩
      exact ⟨fun hl => congrArg Host.Outcome.next (settleHeader_tooLong (s := s.recordTaken) ha hd hv hl),
        fun hlo hhi => congrArg Host.Outcome.next (settleHeader_reads (s := s.recordTaken) ha hd hv hlo hhi)⟩
  case body =>
    rw [exec_bodyPieceDone_of hq hs hr hp]
    obtain rfl : u = s.recordTaken := hu
    refine ⟨fun ha => ?aborted, fun ha hf => ?readFault, fun ha hd => ⟨fun hl => ?next, fun hl => ⟨fun hm => ?right,
      fun hm => ?wrong⟩⟩⟩
    case aborted => rw [settlePiece_aborted (s := s.recordTaken) ha]
    case readFault => rw [settlePiece_readFault (s := s.recordTaken) ha hf]
    case next => exact congrArg Host.Outcome.next (settlePiece_reads (s := s.recordTaken) ha hd hl)
    case right =>
      have hcrc : s.recordTaken.pieceCounted.replay.crcMatches = true := (Replay.crcMatches_iff _).mpr hm
      rw [settlePiece_checks (s := s.recordTaken) ha hd hl, checkBody_matches hcrc]
      rfl
    case wrong =>
      have hcrc : ¬s.recordTaken.pieceCounted.replay.crcMatches = true := mt (Replay.crcMatches_iff _).mp hm
      rw [settlePiece_checks (s := s.recordTaken) ha hd hl, checkBody_differs hcrc]
      rfl

end Sys2Proof.Machine

/-! SUPPORT. One step of the block, by the queue. -/

namespace Sys2Proof.Machine

/-- A command at the front runs on the state with the rest of the queue. -/
theorem step_of_pending_cons {s : State} {c : Instr} {rest : List Instr} (h : s.pending = c :: rest) :
    step s = exec c { s with pending := rest } := by
  rw [step, h]

/-- The block idles on an empty queue (log entry 7). -/
theorem step_of_pending_nil {s : State} (h : s.pending = []) : step s = .next s := by
  rw [step, h]

/-- Settles O1, by the two cases of the queue: a command at its front, and none. -/
theorem stepTakesTheFront : Obligations.StepTakesTheFront :=
  ⟨fun c rest s => step_of_pending_cons (s := { s with pending := c :: rest }) rfl, fun _ h => step_of_pending_nil h⟩

end Sys2Proof.Machine
